-- ==== Sys2Proof/Word.lean ====
section
/-! DEFINITION. The word types of the ksparc CORE (00_scope.md rules R5, R6). -/

namespace Sys2Proof

/-- A 32-bit word: registers, addresses, instruction words (rule R5, `XLEN = 32`). -/
abbrev Word := BitVec 32

/-- A byte of memory (20_memory.md rule R40). -/
abbrev Byte := BitVec 8

/-- The 5-bit number by which an instruction names a general register (10_state.md rule R12). -/
abbrev RegNum := BitVec 5

end Sys2Proof
end

