-- ==== Sys2Proof/Syntax.lean ====
section
/-! DEFINITION. The instructions of the ksparc CORE, one constructor per row of spec/opcode_table.json
(30_encoding.md rules R62 to R82).

A constructor holds EVERY field of its word, the fields the core ignores among them (rule R78), so that
decoding drops no bit: a well-formed instruction and its word determine each other. -/

namespace Sys2Proof

/-- The second operand of a format-3 instruction (rules R64, R68): a register, beside the `asi` field that
the decoder extracts and nothing uses, or a signed 13-bit immediate. -/
inductive Operand2 where
  /-- `i = 0`: the register `rs2`; `asi` is ignored (rule R78). -/
  | reg (asi : BitVec 8) (rs2 : RegNum)
  /-- `i = 1`: the immediate `simm13`, sign-extended where it is used. -/
  | imm (simm13 : BitVec 13)
deriving DecidableEq, Repr

/-- The instructions, in the order of the opcode table. In each constructor's comment: the class of rule R80
and the rule that gives the effect. -/
inductive Instr where
  /-- `HALT0`: halts, rule R163. -/
  | halt0
  /-- `UNIMP`: illegal, rule R258. -/
  | unimp (rd : RegNum) (const22 : BitVec 22)
  /-- `RESERVED_OP2_1`: illegal, rule R258. -/
  | reservedOp2_1 (rd : RegNum) (low22 : BitVec 22)
  /-- `RESERVED_OP2_3`: illegal, rule R258. -/
  | reservedOp2_3 (rd : RegNum) (low22 : BitVec 22)
  /-- `RESERVED_OP2_5`: illegal, rule R258. -/
  | reservedOp2_5 (rd : RegNum) (low22 : BitVec 22)
  /-- `BN`: executed, rule R174. -/
  | bn (a : BitVec 1) (disp22 : BitVec 22)
  /-- `BE`: executed, rule R175. -/
  | be (a : BitVec 1) (disp22 : BitVec 22)
  /-- `BLE`: executed, rule R176. -/
  | ble (a : BitVec 1) (disp22 : BitVec 22)
  /-- `BL`: executed, rule R177. -/
  | bl (a : BitVec 1) (disp22 : BitVec 22)
  /-- `BLEU`: executed, rule R178. -/
  | bleu (a : BitVec 1) (disp22 : BitVec 22)
  /-- `BCS`: executed, rule R179. -/
  | bcs (a : BitVec 1) (disp22 : BitVec 22)
  /-- `BNEG`: executed, rule R180. -/
  | bneg (a : BitVec 1) (disp22 : BitVec 22)
  /-- `BVS`: executed, rule R181. -/
  | bvs (a : BitVec 1) (disp22 : BitVec 22)
  /-- `BA`: executed, rule R182. -/
  | ba (a : BitVec 1) (disp22 : BitVec 22)
  /-- `BNE`: executed, rule R183. -/
  | bne (a : BitVec 1) (disp22 : BitVec 22)
  /-- `BG`: executed, rule R184. -/
  | bg (a : BitVec 1) (disp22 : BitVec 22)
  /-- `BGE`: executed, rule R185. -/
  | bge (a : BitVec 1) (disp22 : BitVec 22)
  /-- `BGU`: executed, rule R186. -/
  | bgu (a : BitVec 1) (disp22 : BitVec 22)
  /-- `BCC`: executed, rule R187. -/
  | bcc (a : BitVec 1) (disp22 : BitVec 22)
  /-- `BPOS`: executed, rule R188. -/
  | bpos (a : BitVec 1) (disp22 : BitVec 22)
  /-- `BVC`: executed, rule R189. -/
  | bvc (a : BitVec 1) (disp22 : BitVec 22)
  /-- `NOP`: executed, rule R191. -/
  | nop
  /-- `SETHI`: executed, rule R190. -/
  | sethi (rd : RegNum) (imm22 : BitVec 22)
  /-- `FBfcc`: no-op, rule R253. -/
  | fbfcc (a : BitVec 1) (cond : BitVec 4) (disp22 : BitVec 22)
  /-- `CBccc`: no-op, rule R253. -/
  | cbccc (a : BitVec 1) (cond : BitVec 4) (disp22 : BitVec 22)
  /-- `CALL`: executed, rule R172. -/
  | call (disp30 : BitVec 30)
  /-- `ADD`: executed, rule R101. -/
  | add (rd rs1 : RegNum) (src : Operand2)
  /-- `AND`: executed, rule R111. -/
  | and (rd rs1 : RegNum) (src : Operand2)
  /-- `OR`: executed, rule R115. -/
  | or (rd rs1 : RegNum) (src : Operand2)
  /-- `XOR`: executed, rule R119. -/
  | xor (rd rs1 : RegNum) (src : Operand2)
  /-- `SUB`: executed, rule R105. -/
  | sub (rd rs1 : RegNum) (src : Operand2)
  /-- `ANDN`: executed, rule R113. -/
  | andn (rd rs1 : RegNum) (src : Operand2)
  /-- `ORN`: executed, rule R117. -/
  | orn (rd rs1 : RegNum) (src : Operand2)
  /-- `XNOR`: executed, rule R121. -/
  | xnor (rd rs1 : RegNum) (src : Operand2)
  /-- `ADDX`: executed, rule R103. -/
  | addx (rd rs1 : RegNum) (src : Operand2)
  /-- `RESERVED_OP2_OP3_09`: illegal, rule R258. -/
  | reservedArith09 (rd : RegNum) (low19 : BitVec 19)
  /-- `UMUL`: executed, rule R141. -/
  | umul (rd rs1 : RegNum) (src : Operand2)
  /-- `SMUL`: executed, rule R143. -/
  | smul (rd rs1 : RegNum) (src : Operand2)
  /-- `SUBX`: executed, rule R107. -/
  | subx (rd rs1 : RegNum) (src : Operand2)
  /-- `RESERVED_OP2_OP3_0D`: illegal, rule R258. -/
  | reservedArith0D (rd : RegNum) (low19 : BitVec 19)
  /-- `UDIV`: executed, rule R146. -/
  | udiv (rd rs1 : RegNum) (src : Operand2)
  /-- `SDIV`: executed, rule R148. -/
  | sdiv (rd rs1 : RegNum) (src : Operand2)
  /-- `ADDcc`: executed, rule R102. -/
  | addcc (rd rs1 : RegNum) (src : Operand2)
  /-- `ANDcc`: executed, rule R112. -/
  | andcc (rd rs1 : RegNum) (src : Operand2)
  /-- `ORcc`: executed, rule R116. -/
  | orcc (rd rs1 : RegNum) (src : Operand2)
  /-- `XORcc`: executed, rule R120. -/
  | xorcc (rd rs1 : RegNum) (src : Operand2)
  /-- `SUBcc`: executed, rule R106. -/
  | subcc (rd rs1 : RegNum) (src : Operand2)
  /-- `ANDNcc`: executed, rule R114. -/
  | andncc (rd rs1 : RegNum) (src : Operand2)
  /-- `ORNcc`: executed, rule R118. -/
  | orncc (rd rs1 : RegNum) (src : Operand2)
  /-- `XNORcc`: executed, rule R122. -/
  | xnorcc (rd rs1 : RegNum) (src : Operand2)
  /-- `ADDXcc`: executed, rule R104. -/
  | addxcc (rd rs1 : RegNum) (src : Operand2)
  /-- `RESERVED_OP2_OP3_19`: illegal, rule R258. -/
  | reservedArith19 (rd : RegNum) (low19 : BitVec 19)
  /-- `UMULcc`: executed, rule R142. -/
  | umulcc (rd rs1 : RegNum) (src : Operand2)
  /-- `SMULcc`: executed, rule R144. -/
  | smulcc (rd rs1 : RegNum) (src : Operand2)
  /-- `SUBXcc`: executed, rule R108. -/
  | subxcc (rd rs1 : RegNum) (src : Operand2)
  /-- `RESERVED_OP2_OP3_1D`: illegal, rule R258. -/
  | reservedArith1D (rd : RegNum) (low19 : BitVec 19)
  /-- `UDIVcc`: executed, rule R147. -/
  | udivcc (rd rs1 : RegNum) (src : Operand2)
  /-- `SDIVcc`: executed, rule R149. -/
  | sdivcc (rd rs1 : RegNum) (src : Operand2)
  /-- `TADDcc`: illegal, rule R258. -/
  | taddcc (rd rs1 : RegNum) (src : Operand2)
  /-- `TSUBcc`: illegal, rule R258. -/
  | tsubcc (rd rs1 : RegNum) (src : Operand2)
  /-- `TADDccTV`: illegal, rule R258. -/
  | taddcctv (rd rs1 : RegNum) (src : Operand2)
  /-- `TSUBccTV`: illegal, rule R258. -/
  | tsubcctv (rd rs1 : RegNum) (src : Operand2)
  /-- `MULScc`: illegal, rule R258. -/
  | mulscc (rd rs1 : RegNum) (src : Operand2)
  /-- `SLL`: executed, rule R131. -/
  | sll (rd rs1 : RegNum) (src : Operand2)
  /-- `SRL`: executed, rule R132. -/
  | srl (rd rs1 : RegNum) (src : Operand2)
  /-- `SRA`: executed, rule R133. -/
  | sra (rd rs1 : RegNum) (src : Operand2)
  /-- `RDY`: executed, rule R194. -/
  | rdy (rd rs1 : RegNum) (src : Operand2)
  /-- `RDPSR`: executed, rule R195. -/
  | rdpsr (rd rs1 : RegNum) (src : Operand2)
  /-- `RDWIM`: executed, rule R196. -/
  | rdwim (rd rs1 : RegNum) (src : Operand2)
  /-- `RDTBR`: executed, rule R197. -/
  | rdtbr (rd rs1 : RegNum) (src : Operand2)
  /-- `RESERVED_OP2_OP3_2C`: illegal, rule R258. -/
  | reservedArith2C (rd : RegNum) (low19 : BitVec 19)
  /-- `RESERVED_OP2_OP3_2D`: illegal, rule R258. -/
  | reservedArith2D (rd : RegNum) (low19 : BitVec 19)
  /-- `RESERVED_OP2_OP3_2E`: illegal, rule R258. -/
  | reservedArith2E (rd : RegNum) (low19 : BitVec 19)
  /-- `RESERVED_OP2_OP3_2F`: illegal, rule R258. -/
  | reservedArith2F (rd : RegNum) (low19 : BitVec 19)
  /-- `WRY`: executed, rule R198. -/
  | wry (rd rs1 : RegNum) (src : Operand2)
  /-- `WRPSR`: executed, rule R199. -/
  | wrpsr (rd rs1 : RegNum) (src : Operand2)
  /-- `WRWIM`: executed, rule R200. -/
  | wrwim (rd rs1 : RegNum) (src : Operand2)
  /-- `WRTBR`: executed, rule R201. -/
  | wrtbr (rd rs1 : RegNum) (src : Operand2)
  /-- `FPop1`: no-op, rule R251. -/
  | fpop1 (rd rs1 : RegNum) (opf : BitVec 9) (rs2 : RegNum)
  /-- `FPop2`: no-op, rule R251. -/
  | fpop2 (rd rs1 : RegNum) (opf : BitVec 9) (rs2 : RegNum)
  /-- `CPop1`: no-op, rule R251. -/
  | cpop1 (rd rs1 : RegNum) (opf : BitVec 9) (rs2 : RegNum)
  /-- `CPop2`: no-op, rule R251. -/
  | cpop2 (rd rs1 : RegNum) (opf : BitVec 9) (rs2 : RegNum)
  /-- `JMPL`: executed, rule R173. -/
  | jmpl (rd rs1 : RegNum) (src : Operand2)
  /-- `RETT`: decoded, not executed, rule R259. -/
  | rett (rd rs1 : RegNum) (src : Operand2)
  /-- `Ticc`: decoded, not executed, rule R254. -/
  | ticc (bit29 : BitVec 1) (cond : BitVec 4) (rs1 : RegNum) (src : Operand2)
  /-- `FLUSH`: decoded, not executed, rule R255. -/
  | flush (rd rs1 : RegNum) (src : Operand2)
  /-- `SAVE`: executed, rule R242. -/
  | save (rd rs1 : RegNum) (src : Operand2)
  /-- `RESTORE`: executed, rule R243. -/
  | restore (rd rs1 : RegNum) (src : Operand2)
  /-- `RESERVED_OP2_OP3_3E`: illegal, rule R258. -/
  | reservedArith3E (rd : RegNum) (low19 : BitVec 19)
  /-- `RESERVED_OP2_OP3_3F`: illegal, rule R258. -/
  | reservedArith3F (rd : RegNum) (low19 : BitVec 19)
  /-- `LD`: executed, rule R211. -/
  | ld (rd rs1 : RegNum) (src : Operand2)
  /-- `LDUB`: executed, rule R212. -/
  | ldub (rd rs1 : RegNum) (src : Operand2)
  /-- `LDUH`: executed, rule R213. -/
  | lduh (rd rs1 : RegNum) (src : Operand2)
  /-- `LDD`: executed, rule R214. -/
  | ldd (rd rs1 : RegNum) (src : Operand2)
  /-- `ST`: executed, rule R215. -/
  | st (rd rs1 : RegNum) (src : Operand2)
  /-- `STB`: executed, rule R216. -/
  | stb (rd rs1 : RegNum) (src : Operand2)
  /-- `STH`: executed, rule R217. -/
  | sth (rd rs1 : RegNum) (src : Operand2)
  /-- `STD`: executed, rule R218. -/
  | std (rd rs1 : RegNum) (src : Operand2)
  /-- `RESERVED_OP3_OP3_08`: illegal, rule R258. -/
  | reservedMem08 (rd : RegNum) (low19 : BitVec 19)
  /-- `LDSB`: executed, rule R219. -/
  | ldsb (rd rs1 : RegNum) (src : Operand2)
  /-- `LDSH`: executed, rule R220. -/
  | ldsh (rd rs1 : RegNum) (src : Operand2)
  /-- `RESERVED_OP3_OP3_0B`: illegal, rule R258. -/
  | reservedMem0B (rd : RegNum) (low19 : BitVec 19)
  /-- `RESERVED_OP3_OP3_0C`: illegal, rule R258. -/
  | reservedMem0C (rd : RegNum) (low19 : BitVec 19)
  /-- `LDSTUB`: illegal, rule R258. -/
  | ldstub (rd rs1 : RegNum) (src : Operand2)
  /-- `RESERVED_OP3_OP3_0E`: illegal, rule R258. -/
  | reservedMem0E (rd : RegNum) (low19 : BitVec 19)
  /-- `SWAP`: illegal, rule R258. -/
  | swap (rd rs1 : RegNum) (src : Operand2)
  /-- `LDA`: decoded, not executed, rule R256. -/
  | lda (rd rs1 : RegNum) (src : Operand2)
  /-- `LDUBA`: decoded, not executed, rule R256. -/
  | lduba (rd rs1 : RegNum) (src : Operand2)
  /-- `LDUHA`: decoded, not executed, rule R256. -/
  | lduha (rd rs1 : RegNum) (src : Operand2)
  /-- `LDDA`: decoded, not executed, rule R256. -/
  | ldda (rd rs1 : RegNum) (src : Operand2)
  /-- `STA`: decoded, not executed, rule R256. -/
  | sta (rd rs1 : RegNum) (src : Operand2)
  /-- `STBA`: decoded, not executed, rule R256. -/
  | stba (rd rs1 : RegNum) (src : Operand2)
  /-- `STHA`: decoded, not executed, rule R256. -/
  | stha (rd rs1 : RegNum) (src : Operand2)
  /-- `STDA`: decoded, not executed, rule R256. -/
  | stda (rd rs1 : RegNum) (src : Operand2)
  /-- `RESERVED_OP3_OP3_18`: illegal, rule R258. -/
  | reservedMem18 (rd : RegNum) (low19 : BitVec 19)
  /-- `LDSBA`: decoded, not executed, rule R256. -/
  | ldsba (rd rs1 : RegNum) (src : Operand2)
  /-- `LDSHA`: decoded, not executed, rule R256. -/
  | ldsha (rd rs1 : RegNum) (src : Operand2)
  /-- `RESERVED_OP3_OP3_1B`: illegal, rule R258. -/
  | reservedMem1B (rd : RegNum) (low19 : BitVec 19)
  /-- `RESERVED_OP3_OP3_1C`: illegal, rule R258. -/
  | reservedMem1C (rd : RegNum) (low19 : BitVec 19)
  /-- `LDSTUBA`: illegal, rule R258. -/
  | ldstuba (rd rs1 : RegNum) (src : Operand2)
  /-- `RESERVED_OP3_OP3_1E`: illegal, rule R258. -/
  | reservedMem1E (rd : RegNum) (low19 : BitVec 19)
  /-- `SWAPA`: illegal, rule R258. -/
  | swapa (rd rs1 : RegNum) (src : Operand2)
  /-- `LDF`: no-op, rule R252. -/
  | ldf (rd rs1 : RegNum) (src : Operand2)
  /-- `LDFSR`: no-op, rule R252. -/
  | ldfsr (rd rs1 : RegNum) (src : Operand2)
  /-- `RESERVED_OP3_OP3_22`: illegal, rule R258. -/
  | reservedMem22 (rd : RegNum) (low19 : BitVec 19)
  /-- `LDDF`: no-op, rule R252. -/
  | lddf (rd rs1 : RegNum) (src : Operand2)
  /-- `STF`: no-op, rule R252. -/
  | stf (rd rs1 : RegNum) (src : Operand2)
  /-- `STFSR`: no-op, rule R252. -/
  | stfsr (rd rs1 : RegNum) (src : Operand2)
  /-- `STDFQ`: no-op, rule R252. -/
  | stdfq (rd rs1 : RegNum) (src : Operand2)
  /-- `STDF`: no-op, rule R252. -/
  | stdf (rd rs1 : RegNum) (src : Operand2)
  /-- `RESERVED_OP3_OP3_28`: illegal, rule R258. -/
  | reservedMem28 (rd : RegNum) (low19 : BitVec 19)
  /-- `RESERVED_OP3_OP3_29`: illegal, rule R258. -/
  | reservedMem29 (rd : RegNum) (low19 : BitVec 19)
  /-- `RESERVED_OP3_OP3_2A`: illegal, rule R258. -/
  | reservedMem2A (rd : RegNum) (low19 : BitVec 19)
  /-- `RESERVED_OP3_OP3_2B`: illegal, rule R258. -/
  | reservedMem2B (rd : RegNum) (low19 : BitVec 19)
  /-- `RESERVED_OP3_OP3_2C`: illegal, rule R258. -/
  | reservedMem2C (rd : RegNum) (low19 : BitVec 19)
  /-- `RESERVED_OP3_OP3_2D`: illegal, rule R258. -/
  | reservedMem2D (rd : RegNum) (low19 : BitVec 19)
  /-- `RESERVED_OP3_OP3_2E`: illegal, rule R258. -/
  | reservedMem2E (rd : RegNum) (low19 : BitVec 19)
  /-- `RESERVED_OP3_OP3_2F`: illegal, rule R258. -/
  | reservedMem2F (rd : RegNum) (low19 : BitVec 19)
  /-- `LDC`: no-op, rule R252. -/
  | ldc (rd rs1 : RegNum) (src : Operand2)
  /-- `LDCSR`: no-op, rule R252. -/
  | ldcsr (rd rs1 : RegNum) (src : Operand2)
  /-- `RESERVED_OP3_OP3_32`: illegal, rule R258. -/
  | reservedMem32 (rd : RegNum) (low19 : BitVec 19)
  /-- `LDDC`: no-op, rule R252. -/
  | lddc (rd rs1 : RegNum) (src : Operand2)
  /-- `STC`: no-op, rule R252. -/
  | stc (rd rs1 : RegNum) (src : Operand2)
  /-- `STCSR`: no-op, rule R252. -/
  | stcsr (rd rs1 : RegNum) (src : Operand2)
  /-- `STDCQ`: no-op, rule R252. -/
  | stdcq (rd rs1 : RegNum) (src : Operand2)
  /-- `STDC`: no-op, rule R252. -/
  | stdc (rd rs1 : RegNum) (src : Operand2)
  /-- `RESERVED_OP3_OP3_38`: illegal, rule R258. -/
  | reservedMem38 (rd : RegNum) (low19 : BitVec 19)
  /-- `RESERVED_OP3_OP3_39`: illegal, rule R258. -/
  | reservedMem39 (rd : RegNum) (low19 : BitVec 19)
  /-- `RESERVED_OP3_OP3_3A`: illegal, rule R258. -/
  | reservedMem3A (rd : RegNum) (low19 : BitVec 19)
  /-- `RESERVED_OP3_OP3_3B`: illegal, rule R258. -/
  | reservedMem3B (rd : RegNum) (low19 : BitVec 19)
  /-- `RESERVED_OP3_OP3_3C`: illegal, rule R258. -/
  | reservedMem3C (rd : RegNum) (low19 : BitVec 19)
  /-- `RESERVED_OP3_OP3_3D`: illegal, rule R258. -/
  | reservedMem3D (rd : RegNum) (low19 : BitVec 19)
  /-- `RESERVED_OP3_OP3_3E`: illegal, rule R258. -/
  | reservedMem3E (rd : RegNum) (low19 : BitVec 19)
  /-- `RESERVED_OP3_OP3_3F`: illegal, rule R258. -/
  | reservedMem3F (rd : RegNum) (low19 : BitVec 19)
deriving DecidableEq, Repr

end Sys2Proof
end

