-- ==== Sys2Proof/WellFormed.lean ====
section
/-! DEFINITION. Which instructions a word decodes to (30_encoding.md rules R81, R82).

Field widths are in the types. What is left to check is the priority of the opcode table's rows: the word
0x01000000 is `NOP` and not `SETHI`, the word 0x00000000 is `HALT0` and not `UNIMP`. -/

namespace Sys2Proof

/-- `sethi 0, %g0` is the word of `NOP`, whose row comes first (rule R82). -/
def Instr.isNopTwin (i : Instr) : Bool := i = .sethi 0#5 0#22

/-- `unimp` with every field zero is the word of `HALT0`, whose row comes first (rule R81). -/
def Instr.isHaltTwin (i : Instr) : Bool := i = .unimp 0#5 0#22

/-- The instructions that some word decodes to. -/
def Instr.wellFormed (i : Instr) : Bool := !i.isNopTwin && !i.isHaltTwin

end Sys2Proof
end

