-- ==== Sys2Proof/Decode.lean ====
section
/-! DEFINITION. The decoder and the encoder of the ksparc CORE (30_encoding.md).

Both are total. The decoder is a function of the word alone (rule R60): every word has exactly one kind
(rule R80), so the only thing it rejects is a byte string too short to hold a word. The opcode numbers are
those the spec supplies (log 17). -/

namespace Sys2Proof

/-! ## The fields of a word (rules R62 to R66), extracted unconditionally -/

/-- `op = w[31:30]`. -/
def fieldOp (w : Word) : BitVec 2 := w.extractLsb' 30 2
/-- `rd = w[29:25]`. -/
def fieldRd (w : Word) : RegNum := w.extractLsb' 25 5
/-- `a = w[29]`. -/
def fieldA (w : Word) : BitVec 1 := w.extractLsb' 29 1
/-- `cond = w[28:25]`. -/
def fieldCond (w : Word) : BitVec 4 := w.extractLsb' 25 4
/-- `op2 = w[24:22]`. -/
def fieldOp2 (w : Word) : BitVec 3 := w.extractLsb' 22 3
/-- `op3 = w[24:19]`. -/
def fieldOp3 (w : Word) : BitVec 6 := w.extractLsb' 19 6
/-- `rs1 = w[18:14]`. -/
def fieldRs1 (w : Word) : RegNum := w.extractLsb' 14 5
/-- `i = w[13]`. -/
def fieldI (w : Word) : BitVec 1 := w.extractLsb' 13 1
/-- `asi = w[12:5]`. -/
def fieldAsi (w : Word) : BitVec 8 := w.extractLsb' 5 8
/-- `rs2 = w[4:0]`. -/
def fieldRs2 (w : Word) : RegNum := w.extractLsb' 0 5
/-- `opf = w[13:5]`. -/
def fieldOpf (w : Word) : BitVec 9 := w.extractLsb' 5 9
/-- `simm13 = w[12:0]`. -/
def fieldSimm13 (w : Word) : BitVec 13 := w.extractLsb' 0 13
/-- `imm22 = disp22 = w[21:0]`. -/
def fieldImm22 (w : Word) : BitVec 22 := w.extractLsb' 0 22
/-- `disp30 = w[29:0]`. -/
def fieldDisp30 (w : Word) : BitVec 30 := w.extractLsb' 0 30
/-- The low 19 bits, which a reserved `op3` gives no meaning. -/
def fieldLow19 (w : Word) : BitVec 19 := w.extractLsb' 0 19

/-- The second operand's encoding, bits 13:0, selected by `i` (rule R68). -/
def fieldSrc (w : Word) : Operand2 :=
  if fieldI w = 0#1 then .reg (fieldAsi w) (fieldRs2 w) else .imm (fieldSimm13 w)

/-! ## The decoder -/

/-- `op = 0`, `op2 = 2`: the sixteen branches by `cond` (rule R71). -/
def decodeBicc (cond : BitVec 4) (a : BitVec 1) (disp22 : BitVec 22) : Instr :=
  match cond with
  | 0x0#4 => .bn a disp22
  | 0x1#4 => .be a disp22
  | 0x2#4 => .ble a disp22
  | 0x3#4 => .bl a disp22
  | 0x4#4 => .bleu a disp22
  | 0x5#4 => .bcs a disp22
  | 0x6#4 => .bneg a disp22
  | 0x7#4 => .bvs a disp22
  | 0x8#4 => .ba a disp22
  | 0x9#4 => .bne a disp22
  | 0xA#4 => .bg a disp22
  | 0xB#4 => .bge a disp22
  | 0xC#4 => .bgu a disp22
  | 0xD#4 => .bcc a disp22
  | 0xE#4 => .bpos a disp22
  | _ => .bvc a disp22

/-- `op = 0`: format 2 by `op2` (rule R70); `HALT0` and `NOP` take precedence (rules R81, R82). -/
def decodeFormat2 (w : Word) : Instr :=
  match fieldOp2 w with
  | 0#3 => if w = 0x00000000#32 then .halt0 else .unimp (fieldRd w) (fieldImm22 w)
  | 1#3 => .reservedOp2_1 (fieldRd w) (fieldImm22 w)
  | 2#3 => decodeBicc (fieldCond w) (fieldA w) (fieldImm22 w)
  | 3#3 => .reservedOp2_3 (fieldRd w) (fieldImm22 w)
  | 4#3 => if w = 0x01000000#32 then .nop else .sethi (fieldRd w) (fieldImm22 w)
  | 5#3 => .reservedOp2_5 (fieldRd w) (fieldImm22 w)
  | 6#3 => .fbfcc (fieldA w) (fieldCond w) (fieldImm22 w)
  | _ => .cbccc (fieldA w) (fieldCond w) (fieldImm22 w)

/-- `op = 2`: arithmetic, logic, shift, special registers, transfers and windows, by `op3` alone (rules R74, R78).
The last arm is `op3 = 0x3F`, a reserved value, and no other: the 63 arms above it take every other value. -/
def decodeArith (w : Word) : Instr :=
  match fieldOp3 w with
  | 0x00#6 => .add (fieldRd w) (fieldRs1 w) (fieldSrc w)
  | 0x01#6 => .and (fieldRd w) (fieldRs1 w) (fieldSrc w)
  | 0x02#6 => .or (fieldRd w) (fieldRs1 w) (fieldSrc w)
  | 0x03#6 => .xor (fieldRd w) (fieldRs1 w) (fieldSrc w)
  | 0x04#6 => .sub (fieldRd w) (fieldRs1 w) (fieldSrc w)
  | 0x05#6 => .andn (fieldRd w) (fieldRs1 w) (fieldSrc w)
  | 0x06#6 => .orn (fieldRd w) (fieldRs1 w) (fieldSrc w)
  | 0x07#6 => .xnor (fieldRd w) (fieldRs1 w) (fieldSrc w)
  | 0x08#6 => .addx (fieldRd w) (fieldRs1 w) (fieldSrc w)
  | 0x09#6 => .reservedArith09 (fieldRd w) (fieldLow19 w)
  | 0x0A#6 => .umul (fieldRd w) (fieldRs1 w) (fieldSrc w)
  | 0x0B#6 => .smul (fieldRd w) (fieldRs1 w) (fieldSrc w)
  | 0x0C#6 => .subx (fieldRd w) (fieldRs1 w) (fieldSrc w)
  | 0x0D#6 => .reservedArith0D (fieldRd w) (fieldLow19 w)
  | 0x0E#6 => .udiv (fieldRd w) (fieldRs1 w) (fieldSrc w)
  | 0x0F#6 => .sdiv (fieldRd w) (fieldRs1 w) (fieldSrc w)
  | 0x10#6 => .addcc (fieldRd w) (fieldRs1 w) (fieldSrc w)
  | 0x11#6 => .andcc (fieldRd w) (fieldRs1 w) (fieldSrc w)
  | 0x12#6 => .orcc (fieldRd w) (fieldRs1 w) (fieldSrc w)
  | 0x13#6 => .xorcc (fieldRd w) (fieldRs1 w) (fieldSrc w)
  | 0x14#6 => .subcc (fieldRd w) (fieldRs1 w) (fieldSrc w)
  | 0x15#6 => .andncc (fieldRd w) (fieldRs1 w) (fieldSrc w)
  | 0x16#6 => .orncc (fieldRd w) (fieldRs1 w) (fieldSrc w)
  | 0x17#6 => .xnorcc (fieldRd w) (fieldRs1 w) (fieldSrc w)
  | 0x18#6 => .addxcc (fieldRd w) (fieldRs1 w) (fieldSrc w)
  | 0x19#6 => .reservedArith19 (fieldRd w) (fieldLow19 w)
  | 0x1A#6 => .umulcc (fieldRd w) (fieldRs1 w) (fieldSrc w)
  | 0x1B#6 => .smulcc (fieldRd w) (fieldRs1 w) (fieldSrc w)
  | 0x1C#6 => .subxcc (fieldRd w) (fieldRs1 w) (fieldSrc w)
  | 0x1D#6 => .reservedArith1D (fieldRd w) (fieldLow19 w)
  | 0x1E#6 => .udivcc (fieldRd w) (fieldRs1 w) (fieldSrc w)
  | 0x1F#6 => .sdivcc (fieldRd w) (fieldRs1 w) (fieldSrc w)
  | 0x20#6 => .taddcc (fieldRd w) (fieldRs1 w) (fieldSrc w)
  | 0x21#6 => .tsubcc (fieldRd w) (fieldRs1 w) (fieldSrc w)
  | 0x22#6 => .taddcctv (fieldRd w) (fieldRs1 w) (fieldSrc w)
  | 0x23#6 => .tsubcctv (fieldRd w) (fieldRs1 w) (fieldSrc w)
  | 0x24#6 => .mulscc (fieldRd w) (fieldRs1 w) (fieldSrc w)
  | 0x25#6 => .sll (fieldRd w) (fieldRs1 w) (fieldSrc w)
  | 0x26#6 => .srl (fieldRd w) (fieldRs1 w) (fieldSrc w)
  | 0x27#6 => .sra (fieldRd w) (fieldRs1 w) (fieldSrc w)
  | 0x28#6 => .rdy (fieldRd w) (fieldRs1 w) (fieldSrc w)
  | 0x29#6 => .rdpsr (fieldRd w) (fieldRs1 w) (fieldSrc w)
  | 0x2A#6 => .rdwim (fieldRd w) (fieldRs1 w) (fieldSrc w)
  | 0x2B#6 => .rdtbr (fieldRd w) (fieldRs1 w) (fieldSrc w)
  | 0x2C#6 => .reservedArith2C (fieldRd w) (fieldLow19 w)
  | 0x2D#6 => .reservedArith2D (fieldRd w) (fieldLow19 w)
  | 0x2E#6 => .reservedArith2E (fieldRd w) (fieldLow19 w)
  | 0x2F#6 => .reservedArith2F (fieldRd w) (fieldLow19 w)
  | 0x30#6 => .wry (fieldRd w) (fieldRs1 w) (fieldSrc w)
  | 0x31#6 => .wrpsr (fieldRd w) (fieldRs1 w) (fieldSrc w)
  | 0x32#6 => .wrwim (fieldRd w) (fieldRs1 w) (fieldSrc w)
  | 0x33#6 => .wrtbr (fieldRd w) (fieldRs1 w) (fieldSrc w)
  | 0x34#6 => .fpop1 (fieldRd w) (fieldRs1 w) (fieldOpf w) (fieldRs2 w)
  | 0x35#6 => .fpop2 (fieldRd w) (fieldRs1 w) (fieldOpf w) (fieldRs2 w)
  | 0x36#6 => .cpop1 (fieldRd w) (fieldRs1 w) (fieldOpf w) (fieldRs2 w)
  | 0x37#6 => .cpop2 (fieldRd w) (fieldRs1 w) (fieldOpf w) (fieldRs2 w)
  | 0x38#6 => .jmpl (fieldRd w) (fieldRs1 w) (fieldSrc w)
  | 0x39#6 => .rett (fieldRd w) (fieldRs1 w) (fieldSrc w)
  | 0x3A#6 => .ticc (fieldA w) (fieldCond w) (fieldRs1 w) (fieldSrc w)
  | 0x3B#6 => .flush (fieldRd w) (fieldRs1 w) (fieldSrc w)
  | 0x3C#6 => .save (fieldRd w) (fieldRs1 w) (fieldSrc w)
  | 0x3D#6 => .restore (fieldRd w) (fieldRs1 w) (fieldSrc w)
  | 0x3E#6 => .reservedArith3E (fieldRd w) (fieldLow19 w)
  | _ => .reservedArith3F (fieldRd w) (fieldLow19 w)

/-- `op = 3`: loads and stores, by `op3` alone (rules R76, R78).
The last arm is `op3 = 0x3F`, a reserved value, and no other. -/
def decodeMem (w : Word) : Instr :=
  match fieldOp3 w with
  | 0x00#6 => .ld (fieldRd w) (fieldRs1 w) (fieldSrc w)
  | 0x01#6 => .ldub (fieldRd w) (fieldRs1 w) (fieldSrc w)
  | 0x02#6 => .lduh (fieldRd w) (fieldRs1 w) (fieldSrc w)
  | 0x03#6 => .ldd (fieldRd w) (fieldRs1 w) (fieldSrc w)
  | 0x04#6 => .st (fieldRd w) (fieldRs1 w) (fieldSrc w)
  | 0x05#6 => .stb (fieldRd w) (fieldRs1 w) (fieldSrc w)
  | 0x06#6 => .sth (fieldRd w) (fieldRs1 w) (fieldSrc w)
  | 0x07#6 => .std (fieldRd w) (fieldRs1 w) (fieldSrc w)
  | 0x08#6 => .reservedMem08 (fieldRd w) (fieldLow19 w)
  | 0x09#6 => .ldsb (fieldRd w) (fieldRs1 w) (fieldSrc w)
  | 0x0A#6 => .ldsh (fieldRd w) (fieldRs1 w) (fieldSrc w)
  | 0x0B#6 => .reservedMem0B (fieldRd w) (fieldLow19 w)
  | 0x0C#6 => .reservedMem0C (fieldRd w) (fieldLow19 w)
  | 0x0D#6 => .ldstub (fieldRd w) (fieldRs1 w) (fieldSrc w)
  | 0x0E#6 => .reservedMem0E (fieldRd w) (fieldLow19 w)
  | 0x0F#6 => .swap (fieldRd w) (fieldRs1 w) (fieldSrc w)
  | 0x10#6 => .lda (fieldRd w) (fieldRs1 w) (fieldSrc w)
  | 0x11#6 => .lduba (fieldRd w) (fieldRs1 w) (fieldSrc w)
  | 0x12#6 => .lduha (fieldRd w) (fieldRs1 w) (fieldSrc w)
  | 0x13#6 => .ldda (fieldRd w) (fieldRs1 w) (fieldSrc w)
  | 0x14#6 => .sta (fieldRd w) (fieldRs1 w) (fieldSrc w)
  | 0x15#6 => .stba (fieldRd w) (fieldRs1 w) (fieldSrc w)
  | 0x16#6 => .stha (fieldRd w) (fieldRs1 w) (fieldSrc w)
  | 0x17#6 => .stda (fieldRd w) (fieldRs1 w) (fieldSrc w)
  | 0x18#6 => .reservedMem18 (fieldRd w) (fieldLow19 w)
  | 0x19#6 => .ldsba (fieldRd w) (fieldRs1 w) (fieldSrc w)
  | 0x1A#6 => .ldsha (fieldRd w) (fieldRs1 w) (fieldSrc w)
  | 0x1B#6 => .reservedMem1B (fieldRd w) (fieldLow19 w)
  | 0x1C#6 => .reservedMem1C (fieldRd w) (fieldLow19 w)
  | 0x1D#6 => .ldstuba (fieldRd w) (fieldRs1 w) (fieldSrc w)
  | 0x1E#6 => .reservedMem1E (fieldRd w) (fieldLow19 w)
  | 0x1F#6 => .swapa (fieldRd w) (fieldRs1 w) (fieldSrc w)
  | 0x20#6 => .ldf (fieldRd w) (fieldRs1 w) (fieldSrc w)
  | 0x21#6 => .ldfsr (fieldRd w) (fieldRs1 w) (fieldSrc w)
  | 0x22#6 => .reservedMem22 (fieldRd w) (fieldLow19 w)
  | 0x23#6 => .lddf (fieldRd w) (fieldRs1 w) (fieldSrc w)
  | 0x24#6 => .stf (fieldRd w) (fieldRs1 w) (fieldSrc w)
  | 0x25#6 => .stfsr (fieldRd w) (fieldRs1 w) (fieldSrc w)
  | 0x26#6 => .stdfq (fieldRd w) (fieldRs1 w) (fieldSrc w)
  | 0x27#6 => .stdf (fieldRd w) (fieldRs1 w) (fieldSrc w)
  | 0x28#6 => .reservedMem28 (fieldRd w) (fieldLow19 w)
  | 0x29#6 => .reservedMem29 (fieldRd w) (fieldLow19 w)
  | 0x2A#6 => .reservedMem2A (fieldRd w) (fieldLow19 w)
  | 0x2B#6 => .reservedMem2B (fieldRd w) (fieldLow19 w)
  | 0x2C#6 => .reservedMem2C (fieldRd w) (fieldLow19 w)
  | 0x2D#6 => .reservedMem2D (fieldRd w) (fieldLow19 w)
  | 0x2E#6 => .reservedMem2E (fieldRd w) (fieldLow19 w)
  | 0x2F#6 => .reservedMem2F (fieldRd w) (fieldLow19 w)
  | 0x30#6 => .ldc (fieldRd w) (fieldRs1 w) (fieldSrc w)
  | 0x31#6 => .ldcsr (fieldRd w) (fieldRs1 w) (fieldSrc w)
  | 0x32#6 => .reservedMem32 (fieldRd w) (fieldLow19 w)
  | 0x33#6 => .lddc (fieldRd w) (fieldRs1 w) (fieldSrc w)
  | 0x34#6 => .stc (fieldRd w) (fieldRs1 w) (fieldSrc w)
  | 0x35#6 => .stcsr (fieldRd w) (fieldRs1 w) (fieldSrc w)
  | 0x36#6 => .stdcq (fieldRd w) (fieldRs1 w) (fieldSrc w)
  | 0x37#6 => .stdc (fieldRd w) (fieldRs1 w) (fieldSrc w)
  | 0x38#6 => .reservedMem38 (fieldRd w) (fieldLow19 w)
  | 0x39#6 => .reservedMem39 (fieldRd w) (fieldLow19 w)
  | 0x3A#6 => .reservedMem3A (fieldRd w) (fieldLow19 w)
  | 0x3B#6 => .reservedMem3B (fieldRd w) (fieldLow19 w)
  | 0x3C#6 => .reservedMem3C (fieldRd w) (fieldLow19 w)
  | 0x3D#6 => .reservedMem3D (fieldRd w) (fieldLow19 w)
  | 0x3E#6 => .reservedMem3E (fieldRd w) (fieldLow19 w)
  | _ => .reservedMem3F (fieldRd w) (fieldLow19 w)

/-- The decoder: one instruction for every word, by `op` (rules R61, R66, R80). -/
def decodeWord (w : Word) : Instr :=
  match fieldOp w with
  | 0#2 => decodeFormat2 w
  | 1#2 => .call (fieldDisp30 w)
  | 2#2 => decodeArith w
  | _ => decodeMem w

/-- Why a byte string decodes to no instruction. -/
inductive DecodeError where
  /-- Fewer than four bytes are left: no instruction is shorter than a word (rule R60). -/
  | truncated
deriving DecidableEq, Repr

/-- The word whose bytes, in the order memory holds them, are `b0 b1 b2 b3`: big-endian (20_memory.md rule
R41). -/
def wordOfBytes (b0 b1 b2 b3 : Byte) : Word := b0 ++ b1 ++ b2 ++ b3

/-- The bytes of a word in the order memory holds them, most significant first (rule R41). -/
def bytesOfWord (w : Word) : List Byte :=
  [w.extractLsb' 24 8, w.extractLsb' 16 8, w.extractLsb' 8 8, w.extractLsb' 0 8]

/-- The decoder on bytes: the first instruction and the bytes after it. -/
def decode : List Byte → Except DecodeError (Instr × List Byte)
  | b0 :: b1 :: b2 :: b3 :: rest => .ok (decodeWord (wordOfBytes b0 b1 b2 b3), rest)
  | _ => .error .truncated

/-- What the decoder reads from the `nbits` bits of `w`, numbered as spec/opcode_table.json numbers them; the
bits above `nbits` are 0. The word is laid out in bytes as memory holds it. -/
def decodeTableWord (nbits w : Nat) : Option Instr :=
  match decode (bytesOfWord (BitVec.ofNat 32 (w % 2 ^ nbits))) with
  | .ok (i, _) => some i
  | .error _ => none

/-! ## The encoder -/

/-- Bits 13:0 of a format-3 word. -/
def encodeSrc : Operand2 → BitVec 14
  | .reg asi rs2 => 0#1 ++ asi ++ rs2
  | .imm simm13 => 1#1 ++ simm13

/-- Format 3 (rule R64): `op`, `rd`, `op3`, `rs1`, then the second operand. -/
def encodeFormat3 (op : BitVec 2) (op3 : BitVec 6) (rd rs1 : RegNum) (src : Operand2) : Word :=
  op ++ rd ++ op3 ++ rs1 ++ encodeSrc src

/-- A word of a reserved `op3` (rule R258): format 3 with its low 19 bits as they are. -/
def encodeReserved3 (op : BitVec 2) (op3 : BitVec 6) (rd : RegNum) (low19 : BitVec 19) : Word :=
  op ++ rd ++ op3 ++ low19

/-- Format 3, FPU and coprocessor variant (rule R65). -/
def encodeFpop (op3 : BitVec 6) (rd rs1 : RegNum) (opf : BitVec 9) (rs2 : RegNum) : Word :=
  2#2 ++ rd ++ op3 ++ rs1 ++ opf ++ rs2

/-- Format 2 with an `rd` field (rule R63). -/
def encodeFormat2 (op2 : BitVec 3) (rd : RegNum) (low22 : BitVec 22) : Word :=
  0#2 ++ rd ++ op2 ++ low22

/-- Format 2 with the `a` and `cond` fields over `rd` (rule R63). -/
def encodeBranch (op2 : BitVec 3) (a : BitVec 1) (cond : BitVec 4) (disp22 : BitVec 22) : Word :=
  0#2 ++ a ++ cond ++ op2 ++ disp22

/-- The word of an instruction (rules R62 to R65, R70 to R76). -/
def encode : Instr → Word
  | .halt0 => 0x00000000#32
  | .unimp rd const22 => encodeFormat2 0#3 rd const22
  | .reservedOp2_1 rd low22 => encodeFormat2 1#3 rd low22
  | .reservedOp2_3 rd low22 => encodeFormat2 3#3 rd low22
  | .reservedOp2_5 rd low22 => encodeFormat2 5#3 rd low22
  | .bn a disp22 => encodeBranch 2#3 a 0x0#4 disp22
  | .be a disp22 => encodeBranch 2#3 a 0x1#4 disp22
  | .ble a disp22 => encodeBranch 2#3 a 0x2#4 disp22
  | .bl a disp22 => encodeBranch 2#3 a 0x3#4 disp22
  | .bleu a disp22 => encodeBranch 2#3 a 0x4#4 disp22
  | .bcs a disp22 => encodeBranch 2#3 a 0x5#4 disp22
  | .bneg a disp22 => encodeBranch 2#3 a 0x6#4 disp22
  | .bvs a disp22 => encodeBranch 2#3 a 0x7#4 disp22
  | .ba a disp22 => encodeBranch 2#3 a 0x8#4 disp22
  | .bne a disp22 => encodeBranch 2#3 a 0x9#4 disp22
  | .bg a disp22 => encodeBranch 2#3 a 0xA#4 disp22
  | .bge a disp22 => encodeBranch 2#3 a 0xB#4 disp22
  | .bgu a disp22 => encodeBranch 2#3 a 0xC#4 disp22
  | .bcc a disp22 => encodeBranch 2#3 a 0xD#4 disp22
  | .bpos a disp22 => encodeBranch 2#3 a 0xE#4 disp22
  | .bvc a disp22 => encodeBranch 2#3 a 0xF#4 disp22
  | .nop => 0x01000000#32
  | .sethi rd imm22 => encodeFormat2 4#3 rd imm22
  | .fbfcc a cond disp22 => encodeBranch 6#3 a cond disp22
  | .cbccc a cond disp22 => encodeBranch 7#3 a cond disp22
  | .call disp30 => 1#2 ++ disp30
  | .add rd rs1 src => encodeFormat3 2#2 0x00#6 rd rs1 src
  | .and rd rs1 src => encodeFormat3 2#2 0x01#6 rd rs1 src
  | .or rd rs1 src => encodeFormat3 2#2 0x02#6 rd rs1 src
  | .xor rd rs1 src => encodeFormat3 2#2 0x03#6 rd rs1 src
  | .sub rd rs1 src => encodeFormat3 2#2 0x04#6 rd rs1 src
  | .andn rd rs1 src => encodeFormat3 2#2 0x05#6 rd rs1 src
  | .orn rd rs1 src => encodeFormat3 2#2 0x06#6 rd rs1 src
  | .xnor rd rs1 src => encodeFormat3 2#2 0x07#6 rd rs1 src
  | .addx rd rs1 src => encodeFormat3 2#2 0x08#6 rd rs1 src
  | .reservedArith09 rd low19 => encodeReserved3 2#2 0x09#6 rd low19
  | .umul rd rs1 src => encodeFormat3 2#2 0x0A#6 rd rs1 src
  | .smul rd rs1 src => encodeFormat3 2#2 0x0B#6 rd rs1 src
  | .subx rd rs1 src => encodeFormat3 2#2 0x0C#6 rd rs1 src
  | .reservedArith0D rd low19 => encodeReserved3 2#2 0x0D#6 rd low19
  | .udiv rd rs1 src => encodeFormat3 2#2 0x0E#6 rd rs1 src
  | .sdiv rd rs1 src => encodeFormat3 2#2 0x0F#6 rd rs1 src
  | .addcc rd rs1 src => encodeFormat3 2#2 0x10#6 rd rs1 src
  | .andcc rd rs1 src => encodeFormat3 2#2 0x11#6 rd rs1 src
  | .orcc rd rs1 src => encodeFormat3 2#2 0x12#6 rd rs1 src
  | .xorcc rd rs1 src => encodeFormat3 2#2 0x13#6 rd rs1 src
  | .subcc rd rs1 src => encodeFormat3 2#2 0x14#6 rd rs1 src
  | .andncc rd rs1 src => encodeFormat3 2#2 0x15#6 rd rs1 src
  | .orncc rd rs1 src => encodeFormat3 2#2 0x16#6 rd rs1 src
  | .xnorcc rd rs1 src => encodeFormat3 2#2 0x17#6 rd rs1 src
  | .addxcc rd rs1 src => encodeFormat3 2#2 0x18#6 rd rs1 src
  | .reservedArith19 rd low19 => encodeReserved3 2#2 0x19#6 rd low19
  | .umulcc rd rs1 src => encodeFormat3 2#2 0x1A#6 rd rs1 src
  | .smulcc rd rs1 src => encodeFormat3 2#2 0x1B#6 rd rs1 src
  | .subxcc rd rs1 src => encodeFormat3 2#2 0x1C#6 rd rs1 src
  | .reservedArith1D rd low19 => encodeReserved3 2#2 0x1D#6 rd low19
  | .udivcc rd rs1 src => encodeFormat3 2#2 0x1E#6 rd rs1 src
  | .sdivcc rd rs1 src => encodeFormat3 2#2 0x1F#6 rd rs1 src
  | .taddcc rd rs1 src => encodeFormat3 2#2 0x20#6 rd rs1 src
  | .tsubcc rd rs1 src => encodeFormat3 2#2 0x21#6 rd rs1 src
  | .taddcctv rd rs1 src => encodeFormat3 2#2 0x22#6 rd rs1 src
  | .tsubcctv rd rs1 src => encodeFormat3 2#2 0x23#6 rd rs1 src
  | .mulscc rd rs1 src => encodeFormat3 2#2 0x24#6 rd rs1 src
  | .sll rd rs1 src => encodeFormat3 2#2 0x25#6 rd rs1 src
  | .srl rd rs1 src => encodeFormat3 2#2 0x26#6 rd rs1 src
  | .sra rd rs1 src => encodeFormat3 2#2 0x27#6 rd rs1 src
  | .rdy rd rs1 src => encodeFormat3 2#2 0x28#6 rd rs1 src
  | .rdpsr rd rs1 src => encodeFormat3 2#2 0x29#6 rd rs1 src
  | .rdwim rd rs1 src => encodeFormat3 2#2 0x2A#6 rd rs1 src
  | .rdtbr rd rs1 src => encodeFormat3 2#2 0x2B#6 rd rs1 src
  | .reservedArith2C rd low19 => encodeReserved3 2#2 0x2C#6 rd low19
  | .reservedArith2D rd low19 => encodeReserved3 2#2 0x2D#6 rd low19
  | .reservedArith2E rd low19 => encodeReserved3 2#2 0x2E#6 rd low19
  | .reservedArith2F rd low19 => encodeReserved3 2#2 0x2F#6 rd low19
  | .wry rd rs1 src => encodeFormat3 2#2 0x30#6 rd rs1 src
  | .wrpsr rd rs1 src => encodeFormat3 2#2 0x31#6 rd rs1 src
  | .wrwim rd rs1 src => encodeFormat3 2#2 0x32#6 rd rs1 src
  | .wrtbr rd rs1 src => encodeFormat3 2#2 0x33#6 rd rs1 src
  | .fpop1 rd rs1 opf rs2 => encodeFpop 0x34#6 rd rs1 opf rs2
  | .fpop2 rd rs1 opf rs2 => encodeFpop 0x35#6 rd rs1 opf rs2
  | .cpop1 rd rs1 opf rs2 => encodeFpop 0x36#6 rd rs1 opf rs2
  | .cpop2 rd rs1 opf rs2 => encodeFpop 0x37#6 rd rs1 opf rs2
  | .jmpl rd rs1 src => encodeFormat3 2#2 0x38#6 rd rs1 src
  | .rett rd rs1 src => encodeFormat3 2#2 0x39#6 rd rs1 src
  | .ticc bit29 cond rs1 src => encodeFormat3 2#2 0x3A#6 (bit29 ++ cond) rs1 src
  | .flush rd rs1 src => encodeFormat3 2#2 0x3B#6 rd rs1 src
  | .save rd rs1 src => encodeFormat3 2#2 0x3C#6 rd rs1 src
  | .restore rd rs1 src => encodeFormat3 2#2 0x3D#6 rd rs1 src
  | .reservedArith3E rd low19 => encodeReserved3 2#2 0x3E#6 rd low19
  | .reservedArith3F rd low19 => encodeReserved3 2#2 0x3F#6 rd low19
  | .ld rd rs1 src => encodeFormat3 3#2 0x00#6 rd rs1 src
  | .ldub rd rs1 src => encodeFormat3 3#2 0x01#6 rd rs1 src
  | .lduh rd rs1 src => encodeFormat3 3#2 0x02#6 rd rs1 src
  | .ldd rd rs1 src => encodeFormat3 3#2 0x03#6 rd rs1 src
  | .st rd rs1 src => encodeFormat3 3#2 0x04#6 rd rs1 src
  | .stb rd rs1 src => encodeFormat3 3#2 0x05#6 rd rs1 src
  | .sth rd rs1 src => encodeFormat3 3#2 0x06#6 rd rs1 src
  | .std rd rs1 src => encodeFormat3 3#2 0x07#6 rd rs1 src
  | .reservedMem08 rd low19 => encodeReserved3 3#2 0x08#6 rd low19
  | .ldsb rd rs1 src => encodeFormat3 3#2 0x09#6 rd rs1 src
  | .ldsh rd rs1 src => encodeFormat3 3#2 0x0A#6 rd rs1 src
  | .reservedMem0B rd low19 => encodeReserved3 3#2 0x0B#6 rd low19
  | .reservedMem0C rd low19 => encodeReserved3 3#2 0x0C#6 rd low19
  | .ldstub rd rs1 src => encodeFormat3 3#2 0x0D#6 rd rs1 src
  | .reservedMem0E rd low19 => encodeReserved3 3#2 0x0E#6 rd low19
  | .swap rd rs1 src => encodeFormat3 3#2 0x0F#6 rd rs1 src
  | .lda rd rs1 src => encodeFormat3 3#2 0x10#6 rd rs1 src
  | .lduba rd rs1 src => encodeFormat3 3#2 0x11#6 rd rs1 src
  | .lduha rd rs1 src => encodeFormat3 3#2 0x12#6 rd rs1 src
  | .ldda rd rs1 src => encodeFormat3 3#2 0x13#6 rd rs1 src
  | .sta rd rs1 src => encodeFormat3 3#2 0x14#6 rd rs1 src
  | .stba rd rs1 src => encodeFormat3 3#2 0x15#6 rd rs1 src
  | .stha rd rs1 src => encodeFormat3 3#2 0x16#6 rd rs1 src
  | .stda rd rs1 src => encodeFormat3 3#2 0x17#6 rd rs1 src
  | .reservedMem18 rd low19 => encodeReserved3 3#2 0x18#6 rd low19
  | .ldsba rd rs1 src => encodeFormat3 3#2 0x19#6 rd rs1 src
  | .ldsha rd rs1 src => encodeFormat3 3#2 0x1A#6 rd rs1 src
  | .reservedMem1B rd low19 => encodeReserved3 3#2 0x1B#6 rd low19
  | .reservedMem1C rd low19 => encodeReserved3 3#2 0x1C#6 rd low19
  | .ldstuba rd rs1 src => encodeFormat3 3#2 0x1D#6 rd rs1 src
  | .reservedMem1E rd low19 => encodeReserved3 3#2 0x1E#6 rd low19
  | .swapa rd rs1 src => encodeFormat3 3#2 0x1F#6 rd rs1 src
  | .ldf rd rs1 src => encodeFormat3 3#2 0x20#6 rd rs1 src
  | .ldfsr rd rs1 src => encodeFormat3 3#2 0x21#6 rd rs1 src
  | .reservedMem22 rd low19 => encodeReserved3 3#2 0x22#6 rd low19
  | .lddf rd rs1 src => encodeFormat3 3#2 0x23#6 rd rs1 src
  | .stf rd rs1 src => encodeFormat3 3#2 0x24#6 rd rs1 src
  | .stfsr rd rs1 src => encodeFormat3 3#2 0x25#6 rd rs1 src
  | .stdfq rd rs1 src => encodeFormat3 3#2 0x26#6 rd rs1 src
  | .stdf rd rs1 src => encodeFormat3 3#2 0x27#6 rd rs1 src
  | .reservedMem28 rd low19 => encodeReserved3 3#2 0x28#6 rd low19
  | .reservedMem29 rd low19 => encodeReserved3 3#2 0x29#6 rd low19
  | .reservedMem2A rd low19 => encodeReserved3 3#2 0x2A#6 rd low19
  | .reservedMem2B rd low19 => encodeReserved3 3#2 0x2B#6 rd low19
  | .reservedMem2C rd low19 => encodeReserved3 3#2 0x2C#6 rd low19
  | .reservedMem2D rd low19 => encodeReserved3 3#2 0x2D#6 rd low19
  | .reservedMem2E rd low19 => encodeReserved3 3#2 0x2E#6 rd low19
  | .reservedMem2F rd low19 => encodeReserved3 3#2 0x2F#6 rd low19
  | .ldc rd rs1 src => encodeFormat3 3#2 0x30#6 rd rs1 src
  | .ldcsr rd rs1 src => encodeFormat3 3#2 0x31#6 rd rs1 src
  | .reservedMem32 rd low19 => encodeReserved3 3#2 0x32#6 rd low19
  | .lddc rd rs1 src => encodeFormat3 3#2 0x33#6 rd rs1 src
  | .stc rd rs1 src => encodeFormat3 3#2 0x34#6 rd rs1 src
  | .stcsr rd rs1 src => encodeFormat3 3#2 0x35#6 rd rs1 src
  | .stdcq rd rs1 src => encodeFormat3 3#2 0x36#6 rd rs1 src
  | .stdc rd rs1 src => encodeFormat3 3#2 0x37#6 rd rs1 src
  | .reservedMem38 rd low19 => encodeReserved3 3#2 0x38#6 rd low19
  | .reservedMem39 rd low19 => encodeReserved3 3#2 0x39#6 rd low19
  | .reservedMem3A rd low19 => encodeReserved3 3#2 0x3A#6 rd low19
  | .reservedMem3B rd low19 => encodeReserved3 3#2 0x3B#6 rd low19
  | .reservedMem3C rd low19 => encodeReserved3 3#2 0x3C#6 rd low19
  | .reservedMem3D rd low19 => encodeReserved3 3#2 0x3D#6 rd low19
  | .reservedMem3E rd low19 => encodeReserved3 3#2 0x3E#6 rd low19
  | .reservedMem3F rd low19 => encodeReserved3 3#2 0x3F#6 rd low19

/-- The bytes of an instruction as memory holds them. -/
def encodeBytes (i : Instr) : List Byte := bytesOfWord (encode i)

end Sys2Proof
end

