-- ==== Sys2Proof/Config.lean ====
section
/-! DEFINITION. The parameters of the core (00_scope.md rule R5) and its free values (rule R8). -/

namespace Sys2Proof

/-- The parameters of rule R5. They stand in State as a record no step writes (log 1), so that a statement
about every state is a statement about every choice of them. -/
structure Config where
  /-- `W`, the number of register windows. -/
  windows : Nat
  /-- `N`, the size of memory in bytes: the valid addresses are `0 .. N-1`. -/
  memSize : Nat
  /-- `STRICT_ALIGN`: misaligned data accesses fault (20_memory.md rule R45). -/
  strictAlign : Bool
  /-- `RD_PRIV_CHECK`: the four special-register reads are gated by `PSR.S`. -/
  rdPrivCheck : Bool
  /-- `PSR_RESET`, the value of `PSR` after `init`. -/
  psrReset : Word
  /-- `WIM_RESET`, the value of `WIM` after `init`. -/
  wimReset : Word
  /-- `TBR_RESET`, the value of `TBR` after `init`. -/
  tbrReset : Word
  /-- `PROGRAM_BASE`, where the driver loads a program; the core itself does not read it. -/
  programBase : Word
deriving DecidableEq, Repr

/-- The parameter values rule R5 allows: `2 <= W <= 32` and `1 <= N <= 2^32`. -/
def Config.legal (c : Config) : Bool :=
  decide (2 ≤ c.windows) && decide (c.windows ≤ 32) && decide (1 ≤ c.memSize) && decide (c.memSize ≤ 2 ^ 32)

/-- The parameters of the machine that `State.reset` describes: every default of rule R5 (log 3), and for `N`,
which has no default, the whole 32-bit address space (DESIGN CHOICE, unsafe: log 2). -/
def Config.default : Config where
  windows := 4
  memSize := 2 ^ 32
  strictAlign := false
  rdPrivCheck := false
  psrReset := 0x00000080#32
  wimReset := 0#32
  tbrReset := 0#32
  programBase := 0#32

/-- The free value of rules R147 and R149: the `k`-th draw of four unspecified condition codes. It has no
body, so nothing is known of the bits (log 10). -/
opaque Config.freeIcc : Nat → BitVec 4

end Sys2Proof
end

