-- ==== Sys2Proof/Machine/State.lean ====
section
/-! DEFINITION. The state of the ksparc CORE (10_state.md rule R10), its faults (60_exceptions.md rule R270) and
its state after reset (10_state.md rule R35). -/

namespace Sys2Proof.Machine

/-- The physical cells of the integer register file (10_state.md rule R11): 8 globals, and for each window 8
outputs and 8 locals; there is no cell for an input register. The storage has room for 32 windows, the most
rule R5 allows; a machine of `W` windows uses those below `W` (log 14). -/
structure RegFile where
  /-- `G[0..7]`; no register name reaches `G[0]` (rule R14, log 15). -/
  globals : Vector Word 8
  /-- `O[w][0..7]`, the outputs of window `w`. -/
  outs : Vector (Vector Word 8) 32
  /-- `L[w][0..7]`, the locals of window `w`. -/
  locals : Vector (Vector Word 8) 32
deriving DecidableEq, Repr

/-- The memory `MEM[0..N-1]` (20_memory.md rule R40) as the list of its bytes that differ from what an unlisted
address reads as, addresses strictly rising (`Memory.wf` says so). -/
structure Memory where
  /-- The listed bytes. -/
  cells : List Host.Cell
deriving DecidableEq, Repr

/-- The whole state of the machine. -/
structure State where
  /-- The parameters of 00_scope.md rule R5; no step writes them (log 1). -/
  cfg : Config
  /-- The integer register file (rule R11). -/
  regs : RegFile
  /-- `PC`: the address of the instruction being executed, or last executed or annulled (rule R20). -/
  pc : Word
  /-- `nPC`: the address the next step fetches from (rule R21). -/
  npc : Word
  /-- `PSR` (rules R23, R24). -/
  psr : Word
  /-- `WIM` (rule R25). -/
  wim : Word
  /-- `TBR` (rule R26). -/
  tbr : Word
  /-- `Y` (rule R27). -/
  y : Word
  /-- `FSR`: storage that no instruction reads or writes (rule R30). -/
  fsr : Word
  /-- `branch_pending` (rule R28). -/
  branchPending : Bool
  /-- `execute_delay_slot` (rule R28). -/
  executeDelaySlot : Bool
  /-- `branch_target` (rule R28). -/
  branchTarget : Word
  /-- `WOVF`, sticky (rule R29). -/
  wovf : Bool
  /-- `WUNF`, sticky (rule R29). -/
  wunf : Bool
  /-- The `live` result of the last step, on the status interface (00_scope.md rule R4, log 8). -/
  live : Bool
  /-- `MEM` (20_memory.md rule R40). -/
  mem : Memory
  /-- The MODEL's own field: how many free values have been drawn (log 10, log 11). -/
  freeCount : Nat
deriving DecidableEq, Repr

/-- Whether a memory transaction reads or writes, which `mem_out_of_bounds` records (rule R270). -/
inductive AccessKind where
  /-- An instruction fetch or a load. -/
  | read
  /-- A store. -/
  | write
deriving DecidableEq, Repr

/-- The model faults of 60_exceptions.md rule R270: a faulting step has done `PC <- nPC` and nothing else, and the
run has ended (rule R271, log 12). Each is a fault of the spec's, so each is SAFE. `pc` is the address of the
instruction. -/
inductive Fault where
  /-- Raised by a fetch, a load or a store of `n` bytes at `addr` of which some byte is not in `0 .. N-1`
  (20_memory.md rule R44). Safe: the spec's own fault. -/
  | memOutOfBounds (pc addr : Word) (n : Nat) (kind : AccessKind)
  /-- Raised by a load or store of 2, 4 or 8 bytes at a misaligned `addr`, only when `STRICT_ALIGN` is true
  (20_memory.md rule R45). Safe: the spec's own fault. -/
  | memBadAlignment (pc addr : Word) (n : Nat)
  /-- Raised by every word of 46_unexecuted_and_illegal.md rule R258, and by LDD and STD with an odd `rd`. Safe:
  the spec's own fault. -/
  | illegalInstruction (pc word : Word)
  /-- Raised by Ticc, RETT, FLUSH and the alternate-space loads and stores (46_unexecuted_and_illegal.md rule
  R257). Safe: the spec's own fault. -/
  | unimplementedInstruction (pc word : Word)
  /-- Raised by UDIV, UDIVcc, SDIV and SDIVcc when the second operand is 0 (41_alu_muldiv.md rule R150). Safe: the
  spec's own fault. -/
  | divisionByZero (pc : Word)
deriving DecidableEq, Repr

/-- Why the model gives an instruction no meaning. Every instruction of the table has one, so no step of this model
answers with it. -/
inductive Refusal where
  /-- Only an arm of `exec` may raise this, for an instruction not modelled yet. Safe: nothing follows from it.
  No arm does. -/
  | notModelled (mnemonic : String)
deriving DecidableEq, Repr

/-- What an instruction's meaning answers. -/
abbrev Outcome := Host.Outcome State Fault Refusal

/-- A register file with 0 in every cell: DESIGN CHOICE, unsafe (log 4): the spec leaves the cells unspecified. -/
def RegFile.reset : RegFile where
  globals := Vector.replicate 8 0#32
  outs := Vector.replicate 32 (Vector.replicate 8 0#32)
  locals := Vector.replicate 32 (Vector.replicate 8 0#32)

/-- The machine right after reset (10_state.md rule R35, 70_reset_and_hazards.md rule R290), with the parameters of
`Config.default`. What `init` does not write stands at 0: the general registers (log 4), `Y` (log 5), `FSR` (log 6),
and no byte of memory is listed (log 7); `live` is true (log 8); `freeCount` is 0 (log 11). -/
def State.reset : State where
  cfg := Config.default
  regs := RegFile.reset
  pc := 0xFFFFFFFF#32
  npc := 0#32
  psr := Config.default.psrReset
  wim := Config.default.wimReset
  tbr := Config.default.tbrReset
  y := 0#32
  fsr := 0#32
  branchPending := false
  executeDelaySlot := false
  branchTarget := 0#32
  wovf := false
  wunf := false
  live := true
  mem := ⟨[]⟩
  freeCount := 0

end Sys2Proof.Machine
end

