-- ==== Sys2Proof/Machine/Registers.lean ====
section
/-! DEFINITION. The named operations over registers: fields of a special register (10_state.md rule R23), the
current window (rule R12), and the one read and the one write of a general register (rules R12, R13). -/

namespace Sys2Proof.Machine

/-! ## Fields of a special register (rule R23) -/

/-- `width` ones at the bottom of a word. -/
def fieldMask (width : Nat) : Word := BitVec.ofNat 32 (2 ^ width - 1)

/-- `get_field(offset, width)`: bits `offset + width - 1` down to `offset` (rules R6, R23). -/
def getField (r : Word) (offset width : Nat) : Word := (r >>> offset) &&& fieldMask width

/-- `set_field(offset, width, value)`: those bits replaced by the low `width` bits of `value`, the others kept
(rule R23). -/
def setField (r : Word) (offset width : Nat) (value : Word) : Word :=
  (r &&& ~~~(fieldMask width <<< offset)) ||| ((value &&& fieldMask width) <<< offset)

/-- A named field of a special register. -/
structure FieldSpec where
  /-- The lowest bit. -/
  offset : Nat
  /-- How many bits. -/
  width : Nat
deriving DecidableEq, Repr

/-- `PSR.IMPL`: storage without function (rule R23). -/
def psrImpl : FieldSpec := ⟨28, 4⟩
/-- `PSR.VERS`: storage without function. -/
def psrVers : FieldSpec := ⟨24, 4⟩
/-- `PSR.N, Z, V, C` together (rule R24). -/
def psrIcc : FieldSpec := ⟨20, 4⟩
/-- The reserved bits of `PSR`: storage without function. -/
def psrReserved : FieldSpec := ⟨14, 6⟩
/-- `PSR.EC`: storage without function. -/
def psrEc : FieldSpec := ⟨13, 1⟩
/-- `PSR.EF`: storage without function. -/
def psrEf : FieldSpec := ⟨12, 1⟩
/-- `PSR.PIL`: storage without function (60_exceptions.md rule R276). -/
def psrPil : FieldSpec := ⟨8, 4⟩
/-- `PSR.S`, the supervisor bit. -/
def psrS : FieldSpec := ⟨7, 1⟩
/-- `PSR.PS`: storage without function. -/
def psrPs : FieldSpec := ⟨6, 1⟩
/-- `PSR.ET`: storage without function. -/
def psrEt : FieldSpec := ⟨5, 1⟩
/-- `PSR.CWP`, the current window pointer. -/
def psrCwp : FieldSpec := ⟨0, 5⟩
/-- `TBR.TBA` (rule R26): storage without function. -/
def tbrTba : FieldSpec := ⟨12, 20⟩
/-- `TBR.TT` (rule R26): storage without function. -/
def tbrTt : FieldSpec := ⟨4, 8⟩

/-- The named field `f` of the register value `r`. -/
def FieldSpec.get (f : FieldSpec) (r : Word) : Word := getField r f.offset f.width

/-- The register value `r` with its named field `f` replaced. -/
def FieldSpec.set (f : FieldSpec) (r v : Word) : Word := setField r f.offset f.width v

/-- `PSR.S == 1`: supervisor mode (60_exceptions.md rule R280). -/
def State.supervisor (s : State) : Bool := s.psr.getLsbD 7

/-! ## Windows and physical cells (rules R11, R12) -/

/-- `cwp = PSR.CWP mod W`, the effective window index (rule R12). -/
def State.cwp (s : State) : Nat := (psrCwp.get s.psr).toNat % s.cfg.windows

/-- The physical cells of the register file (rule R11). -/
inductive PhysReg where
  /-- `G[i]`. -/
  | g (i : Fin 8)
  /-- `O[w][i]`. -/
  | o (w : Fin 32) (i : Fin 8)
  /-- `L[w][i]`. -/
  | l (w : Fin 32) (i : Fin 8)
deriving DecidableEq, Repr

/-- The content of a cell. -/
def RegFile.get (r : RegFile) : PhysReg → Word
  | .g i => r.globals[i]
  | .o w i => r.outs[w][i]
  | .l w i => r.locals[w][i]

/-- The register file with one cell written. -/
def RegFile.set (r : RegFile) (p : PhysReg) (v : Word) : RegFile :=
  match p with
  | .g i => { r with globals := r.globals.set i v }
  | .o w i => { r with outs := r.outs.set w (r.outs[w].set i v) }
  | .l w i => { r with locals := r.locals.set w (r.locals[w].set i v) }

/-- A window index as an index of the storage; the identity on `0 .. 31`, so on every index of a legal machine
(log 16). -/
def windowIndex (w : Nat) : Fin 32 := Fin.ofNat 32 w

/-- Rule R12: the physical cell that the register number `n` names in window `cwp` of a machine of `windows`
windows; none for `%g0`. The inputs of a window are the outputs of the next one, in a ring. -/
def physReg (windows cwp : Nat) (n : RegNum) : Option PhysReg :=
  let i := Fin.ofNat 8 n.toNat
  if n = 0#5 then none
  else if n.toNat < 8 then some (.g i)
  else if n.toNat < 16 then some (.o (windowIndex cwp) i)
  else if n.toNat < 24 then some (.l (windowIndex cwp) i)
  else some (.o (windowIndex ((cwp + 1) % windows)) i)

/-- The cell that `n` names in the current window. -/
def State.cellOf (s : State) (n : RegNum) : Option PhysReg := physReg s.cfg.windows s.cwp n

/-- The content of a cell that may be `%g0`'s none, which reads as 0 (rule R14). -/
def RegFile.read (r : RegFile) : Option PhysReg → Word
  | none => 0#32
  | some p => r.get p

/-- One cell written, or none for `%g0`, whose writes are discarded (rules R13, R14). -/
def RegFile.write (r : RegFile) (c : Option PhysReg) (v : Word) : RegFile :=
  match c with
  | none => r
  | some p => r.set p v

/-- `r[n]` (rules R12, R14): the one read of a general register. -/
def State.readReg (s : State) (n : RegNum) : Word := s.regs.read (s.cellOf n)

/-- `r[n] <- v` (rule R13): the one write of a general register. -/
def State.writeReg (s : State) (n : RegNum) (v : Word) : State := { s with regs := s.regs.write (s.cellOf n) v }

end Sys2Proof.Machine
end

