-- ==== Sys2Proof/Machine/Operands.lean ====
section
/-! DEFINITION. The operand forms (30_encoding.md rules R67, R68; 44_load_store.md rule R210) and the extensions
and negations of 00_scope.md rule R7. -/

namespace Sys2Proof.Machine

/-- `sext_N(v)`: the low `n` bits of `v`, sign-extended to 32 bits (rule R7). -/
def sext (n : Nat) (v : Word) : Word := (v.setWidth n).signExtend 32

/-- `zext_N(v)`: the low `n` bits of `v`, zero-extended to 32 bits (rule R7). -/
def zext (n : Nat) (v : Word) : Word := (v.setWidth n).setWidth 32

/-- `neg32(x)`: two's complement modulo 2^32 (rule R7). -/
def neg32 (x : Word) : Word := ~~~x + 1#32

/-- `neg64(x)`: two's complement modulo 2^64 (rule R7). -/
def neg64 (x : BitVec 64) : BitVec 64 := ~~~x + 1#64

/-- `is_neg(x)`: bit 31 (rule R7). -/
def isNeg (x : Word) : Bool := x.getLsbD 31

/-- The magnitude of a signed word; that of `0x80000000` is `2^31` (41_alu_muldiv.md rules R143, R148). -/
def magnitude (x : Word) : Word := if isNeg x then neg32 x else x

/-- `operand2` (rule R68): the register `rs2`, or `simm13` sign-extended. -/
def State.operand2 (s : State) : Operand2 → Word
  | .reg _ rs2 => s.readReg rs2
  | .imm simm13 => simm13.signExtend 32

/-- The effective address of a load or store, modulo 2^32 (rule R210). -/
def State.effAddr (s : State) (rs1 : RegNum) (src : Operand2) : Word := s.readReg rs1 + s.operand2 src

/-- The byte displacement of a branch: `sext_22(disp22) << 2` (rule R67). -/
def branchOffset (disp22 : BitVec 22) : Word := disp22.signExtend 32 <<< 2

/-- The byte displacement of a call: `sext_30(disp30) << 2` (rule R67). -/
def callOffset (disp30 : BitVec 30) : Word := disp30.signExtend 32 <<< 2

/-- The value `SETHI` writes: `imm22 ++ 0000000000` (rules R67, R190). -/
def sethiValue (imm22 : BitVec 22) : Word := imm22 ++ 0#10

end Sys2Proof.Machine
end

