-- ==== Sys2Proof/Machine/Flags.lean ====
section
/-! DEFINITION. The condition codes (10_state.md rule R24): how they stand in `PSR`, how each group of instructions
computes them (40_alu_arith_logic.md, 41_alu_muldiv.md), and the branch predicates over them
(42_step_and_control_transfer.md rule R171). -/

namespace Sys2Proof.Machine

/-- The four integer condition codes. -/
structure Icc where
  /-- Negative. -/
  n : Bool
  /-- Zero. -/
  z : Bool
  /-- Overflow. -/
  v : Bool
  /-- Carry or borrow. -/
  c : Bool
deriving DecidableEq, Repr

/-- `N Z V C` in that order, `N` highest. -/
def Icc.bits (f : Icc) : BitVec 4 :=
  BitVec.ofBool f.n ++ BitVec.ofBool f.z ++ BitVec.ofBool f.v ++ BitVec.ofBool f.c

/-- The condition codes of four bits, `N` highest. -/
def Icc.ofBits (b : BitVec 4) : Icc := ⟨b.getLsbD 3, b.getLsbD 2, b.getLsbD 1, b.getLsbD 0⟩

/-- `PSR.N, Z, V, C`, bits 23, 22, 21, 20 (rules R23, R24). -/
def State.icc (s : State) : Icc :=
  ⟨s.psr.getLsbD 23, s.psr.getLsbD 22, s.psr.getLsbD 21, s.psr.getLsbD 20⟩

/-- `ICC <- (n, z, v, c)`: the four together, every other bit of `PSR` kept (rule R7). -/
def State.writeIcc (s : State) (f : Icc) : State := { s with psr := psrIcc.set s.psr (f.bits.setWidth 32) }

/-- `ICC <- (any, any, any, any)`: the next draw of the free value (rules R147, R149; log 10). -/
def State.writeFreeIcc (s : State) : State :=
  { s.writeIcc (Icc.ofBits (Config.freeIcc s.freeCount)) with freeCount := s.freeCount + 1 }

/-! ## Addition and subtraction: computed exactly, then narrowed -/

/-- `t = int(a) + int(b) + cin` (rules R102, R104). -/
def exactSum (a b : Word) (cin : Bool) : Nat := a.toNat + b.toNat + cin.toNat

/-- `t mod 2^32` (rules R101 to R104). -/
def addWords (a b : Word) (cin : Bool) : Word := BitVec.ofNat 32 (exactSum a b cin)

/-- `t = int(a) - int(b) - cin` (rules R106, R108). -/
def exactDiff (a b : Word) (cin : Bool) : Int := (a.toNat : Int) - (b.toNat : Int) - (cin.toNat : Int)

/-- `t mod 2^32` (rules R105 to R108). -/
def subWords (a b : Word) (cin : Bool) : Word := BitVec.ofInt 32 (exactDiff a b cin)

/-- The condition codes of `ADDcc` and `ADDXcc` (rules R102, R104). -/
def iccAdd (a b : Word) (cin : Bool) : Icc :=
  let res := addWords a b cin
  { n := isNeg res
    z := res == 0#32
    v := isNeg a == isNeg b && isNeg res != isNeg a
    c := decide (2 ^ 32 ≤ exactSum a b cin) }

/-- The condition codes of `SUBcc` and `SUBXcc` (rules R106, R108): `C` is the unsigned borrow. -/
def iccSub (a b : Word) (cin : Bool) : Icc :=
  let res := subWords a b cin
  { n := isNeg res
    z := res == 0#32
    v := isNeg a != isNeg b && isNeg res != isNeg a
    c := decide (exactDiff a b cin < 0) }

/-- The condition codes of the logical instructions (rule R110). -/
def iccLogic (res : Word) : Icc := { n := isNeg res, z := res == 0#32, v := false, c := false }

/-- The high word of a 64-bit pair, which goes to `Y`. -/
def pairHigh (p : BitVec 64) : Word := p.extractLsb' 32 32

/-- The low word of a 64-bit pair, which goes to `rd`. -/
def pairLow (p : BitVec 64) : Word := p.extractLsb' 0 32

/-- The condition codes of `UMULcc` (rule R142), from the whole product. -/
def iccUmul (p : BitVec 64) : Icc :=
  { n := false, z := pairLow p == 0#32 && pairHigh p == 0#32, v := pairHigh p != 0#32, c := false }

/-- The condition codes of `SMULcc` (rule R144), from the whole product. -/
def iccSmul (p : BitVec 64) : Icc :=
  { n := isNeg (pairLow p), z := pairLow p == 0#32 && pairHigh p == 0#32, v := pairHigh p != 0#32, c := false }

/-! ## Branch predicates (rule R171) -/

/-- `base(cond[2:0])`. The last arm is 7, overflow set. -/
def branchBase (f : Icc) (c : BitVec 3) : Bool :=
  match c with
  | 0#3 => false
  | 1#3 => f.z
  | 2#3 => f.z || (f.n ^^ f.v)
  | 3#3 => f.n ^^ f.v
  | 4#3 => f.c || f.z
  | 5#3 => f.c
  | 6#3 => f.n
  | _ => f.v

/-- `pred(cond)`: bit 3 inverts. -/
def branchPred (f : Icc) (cond : BitVec 4) : Bool := branchBase f (cond.extractLsb' 0 3) ^^ cond.getLsbD 3

end Sys2Proof.Machine
end

