-- ==== Sys2Proof/Machine/Mem.lean ====
section
/-! DEFINITION. Memory as data: one byte read and written, the canonical form, and big-endian accesses
(20_memory.md rules R40, R41). -/

namespace Sys2Proof.Machine

/-- What an address that is not listed reads as. DESIGN CHOICE, unsafe (log 7): the spec leaves memory the driver
has not loaded unspecified and expects it to be zero (70_reset_and_hazards.md rule R296). -/
def unlistedByte : Byte := 0#8

/-- The first entry for `a`, or the unlisted byte. -/
def lookupByte : List Host.Cell → Nat → Byte
  | [], _ => unlistedByte
  | (b, v) :: rest, a => if b = a then v else lookupByte rest a

/-- Every entry for `a` taken out. -/
def eraseByte : List Host.Cell → Nat → List Host.Cell
  | [], _ => []
  | (b, v) :: rest, a => if b = a then eraseByte rest a else (b, v) :: eraseByte rest a

/-- An entry put in before the first higher address. -/
def insertByte : List Host.Cell → Nat → Byte → List Host.Cell
  | [], a, v => [(a, v)]
  | (b, u) :: rest, a, v => if a < b then (a, v) :: (b, u) :: rest else (b, u) :: insertByte rest a v

/-- `MEM[a]`. -/
def Memory.readByte (m : Memory) (a : Nat) : Byte := lookupByte m.cells a

/-- `MEM[a] <- v`, keeping the canonical form: writing the unlisted byte removes the entry. -/
def Memory.writeByte (m : Memory) (a : Nat) (v : Byte) : Memory :=
  if v = unlistedByte then ⟨eraseByte m.cells a⟩ else ⟨insertByte (eraseByte m.cells a) a v⟩

/-- The addresses of a list are strictly rising, and all above `lo` or equal to it. -/
def risingFrom : Nat → List Host.Cell → Bool
  | _, [] => true
  | lo, (b, _) :: rest => decide (lo ≤ b) && risingFrom (b + 1) rest

/-- The canonical form: addresses strictly rising, no entry equal to the unlisted byte. -/
def Memory.wf (m : Memory) : Bool := risingFrom 0 m.cells && m.cells.all fun c => c.2 ≠ unlistedByte

/-- Every listed address is one of `0 .. n-1` (rule R40). -/
def Memory.within (m : Memory) (n : Nat) : Bool := m.cells.all fun c => decide (c.1 < n)

/-- The big-endian value of the `n` bytes at `a`, zero-extended to a word (rules R41, R42); `n` is 1, 2 or 4. -/
def Memory.readBE (m : Memory) (a : Nat) : Nat → Word
  | 0 => 0#32
  | n + 1 => ((m.readByte a).setWidth 32 <<< (8 * n)) ||| m.readBE (a + 1) n

/-- The low `n` bytes of `v` written big-endian at `a` (rules R41, R43); `n` is 1, 2 or 4. -/
def Memory.writeBE (m : Memory) (a : Nat) (v : Word) : Nat → Memory
  | 0 => m
  | n + 1 => (m.writeByte a (v.extractLsb' (8 * n) 8)).writeBE (a + 1) v n

end Sys2Proof.Machine
end

