-- ==== Sys2Proof/Machine/Ops.lean ====
section
/-! DEFINITION. The named operations the meanings and the step share: raising a model fault (60_exceptions.md rule
R270), the memory port (20_memory.md rules R42 to R45), the fetch, the branch latches and the next-nPC phase
(42_step_and_control_transfer.md), and the window rotation (45_window.md rule R241).

The core delivers NO trap and executes NO return from one (60_exceptions.md rules R272, R274): nothing saves the
program counter or the status, and no handler is entered. What stands here in the place of taking an exception is
raising a model fault, after which the run has ended (rule R271, log 12). -/

namespace Sys2Proof.Machine

/-! ## Raising a model fault (rules R270, R271) -/

/-- `raise illegal_instruction`, with the word (rule R258). -/
def State.raiseIllegal (s : State) (i : Instr) : Outcome := .fault (.illegalInstruction s.pc (encode i))

/-- `raise unimplemented_instruction`, with the word (rule R257). -/
def State.raiseUnimplemented (s : State) (i : Instr) : Outcome := .fault (.unimplementedInstruction s.pc (encode i))

/-- `raise division_by_zero` (rule R150). -/
def State.raiseDivisionByZero (s : State) : Outcome := .fault (.divisionByZero s.pc)

/-! ## The memory port (rules R42 to R45) -/

/-- An access of `n` bytes at `addr` fails the alignment check: only with `STRICT_ALIGN`, and never for a byte
(rule R45). -/
def State.misaligned (s : State) (addr : Word) (n : Nat) : Bool :=
  s.cfg.strictAlign && decide (1 < n) && decide (addr.toNat % n ≠ 0)

/-- An access of `n` bytes at `addr` touches a byte outside `0 .. N-1`; the sum does not wrap (rule R44). -/
def State.outOfBounds (s : State) (addr : Word) (n : Nat) : Bool := decide (s.cfg.memSize < addr.toNat + n)

/-- The fault of a data transaction: alignment before bounds (rules R42, R43, R273). -/
def State.accessFault (s : State) (addr : Word) (n : Nat) (kind : AccessKind) : Option Fault :=
  if s.misaligned addr n then some (.memBadAlignment s.pc addr n)
  else if s.outOfBounds addr n then some (.memOutOfBounds s.pc addr n kind)
  else none

/-- `MemRead(addr, n)` (rule R42), the value zero-extended to a word. -/
def State.memRead (s : State) (addr : Word) (n : Nat) : Except Fault Word :=
  match s.accessFault addr n .read with
  | some f => .error f
  | none => .ok (s.mem.readBE addr.toNat n)

/-- The bytes a transaction writes when it faults in nothing: the low `n` bytes of `v`, at `addr` (rule R43). -/
def State.storeBytes (s : State) (addr : Word) (n : Nat) (v : Word) : State :=
  { s with mem := s.mem.writeBE addr.toNat v n }

/-- `MemWrite(addr, n, v)` (rule R43): a faulting write changes no byte. -/
def State.memWrite (s : State) (addr : Word) (n : Nat) (v : Word) : Except Fault State :=
  match s.accessFault addr n .write with
  | some f => .error f
  | none => .ok (s.storeBytes addr n v)

/-- The fetch (rule R161): the word at `PC`, bounds-checked, never alignment-checked (10_state.md rule R22). -/
def State.fetch (s : State) : Except Fault Word :=
  if s.outOfBounds s.pc 4 then .error (.memOutOfBounds s.pc s.pc 4 .read)
  else .ok (s.mem.readBE s.pc.toNat 4)

/-! ## The phases of a step around the instruction's own effect (rules R160, R163, R164) -/

/-- Line 1 of a step: `PC <- nPC` (rule R160). `live` becomes the result of a step that does not halt; `HALT0`
makes it false (log 19). It is also the whole state a faulting step leaves (rule R271). -/
def State.beginStep (s : State) : State := { s with pc := s.npc, live := true }

/-- The next-nPC phase (rule R164). -/
def State.nextNpcPhase (s : State) : State :=
  if s.branchPending then
    if s.executeDelaySlot then { s with npc := s.pc + 4#32, executeDelaySlot := false }
    else { s with npc := s.branchTarget, branchPending := false }
  else { s with npc := s.pc + 4#32 }

/-- Line 6 of a step: the next-nPC phase runs unless the step halted (rules R160, R163). -/
def State.endStep (s : State) : State := if s.live then s.nextNpcPhase else s

/-! ## The branch latches (rule R28) -/

/-- A control transfer is decided: its target, and whether a delay slot comes first (rules R170, R172, R173). An
earlier pending transfer is overwritten (rule R166). -/
def State.setLatches (s : State) (target : Word) (delaySlot : Bool) : State :=
  { s with branchPending := true, executeDelaySlot := delaySlot, branchTarget := target }

/-- `PC >> 2`, the word index that `CALL` and `JMPL` link (rules R172, R173). -/
def State.linkValue (s : State) : Word := s.pc >>> 2

/-! ## Window rotation (rules R15, R241) -/

/-- Which way `CWP` turns. -/
inductive Rotation where
  /-- `SAVE`: `CWP` is incremented modulo `W`. -/
  | save
  /-- `RESTORE`: `CWP` is decremented modulo `W`. -/
  | restore
deriving DecidableEq, Repr

/-- The window entered from window `old` of `w` windows. -/
def Rotation.target (d : Rotation) (w old : Nat) : Nat :=
  match d with
  | .save => (old + 1) % w
  | .restore => (old + w - 1) % w

/-- The rotation passes the end of the ring: from window `W - 1` to 0, or from 0 to `W - 1`. -/
def Rotation.wraps (d : Rotation) (w old : Nat) : Bool :=
  match d with
  | .save => old + 1 == w
  | .restore => old == 0

/-- One bit of a word set. -/
def setBit (v : Word) (k : Nat) : Word := v ||| (1#32 <<< k)

/-- `rotate(dir)` (rule R241): a wrap sets the `WIM` bit of the new window, then the bit of the new window raises the
sticky indicator, and `CWP` always becomes the new window. -/
def State.rotate (s : State) (d : Rotation) : State :=
  let new := d.target s.cfg.windows s.cwp
  let wim := if d.wraps s.cfg.windows s.cwp then setBit s.wim new else s.wim
  { s with
    wim := wim
    wovf := s.wovf || (d == .save && wim.getLsbD new)
    wunf := s.wunf || (d == .restore && wim.getLsbD new)
    psr := psrCwp.set s.psr (BitVec.ofNat 32 new) }

end Sys2Proof.Machine
end

