-- ==== Sys2Proof/Machine/Alu.lean ====
section
/-! DEFINITION. Add, subtract, logic and shift (40_alu_arith_logic.md). -/

namespace Sys2Proof.Machine

/-- The common template of rule R100 without condition codes: both operands are read, `f` gives the result, and it is
written to `rd`. -/
def State.alu (s : State) (rd rs1 : RegNum) (src : Operand2) (f : Word → Word → Word) : Outcome :=
  .next (s.writeReg rd (f (s.readReg rs1) (s.operand2 src)))

/-- The common template of rule R100 with condition codes: the four are written together, also when `rd` is `%g0`. -/
def State.aluCc (s : State) (rd rs1 : RegNum) (src : Operand2) (f : Word → Word → Word) (flags : Word → Word → Icc) :
    Outcome :=
  let a := s.readReg rs1
  let b := s.operand2 src
  .next ((s.writeReg rd (f a b)).writeIcc (flags a b))

/-- A logical instruction with condition codes (rule R110): `N` and `Z` from the result, `V` and `C` cleared. -/
def State.logicCc (s : State) (rd rs1 : RegNum) (src : Operand2) (f : Word → Word → Word) : Outcome :=
  s.aluCc rd rs1 src f fun a b => iccLogic (f a b)

/-- The shift count: the low five bits of the second operand (rule R130). -/
def shiftCount (b : Word) : Nat := (b.extractLsb' 0 5).toNat

/-- `ADD` (rule R101): `r[rd] <- a + b` modulo 2^32. -/
def execAdd (rd rs1 : RegNum) (src : Operand2) (s : State) : Outcome :=
  s.alu rd rs1 src (fun a b => addWords a b false)

/-- `ADDX` (rule R103): `r[rd] <- a + b + PSR.C`, `C` as it was before the instruction. -/
def execAddx (rd rs1 : RegNum) (src : Operand2) (s : State) : Outcome :=
  s.alu rd rs1 src (fun a b => addWords a b s.icc.c)

/-- `SUB` (rule R105): `r[rd] <- a - b` modulo 2^32. -/
def execSub (rd rs1 : RegNum) (src : Operand2) (s : State) : Outcome :=
  s.alu rd rs1 src (fun a b => subWords a b false)

/-- `SUBX` (rule R107): `r[rd] <- a - b - PSR.C`. -/
def execSubx (rd rs1 : RegNum) (src : Operand2) (s : State) : Outcome :=
  s.alu rd rs1 src (fun a b => subWords a b s.icc.c)

/-- `AND` (rule R111): `r[rd] <- a & b`. -/
def execAnd (rd rs1 : RegNum) (src : Operand2) (s : State) : Outcome :=
  s.alu rd rs1 src (fun a b => a &&& b)

/-- `ANDN` (rule R113): `r[rd] <- a & ~b`. -/
def execAndn (rd rs1 : RegNum) (src : Operand2) (s : State) : Outcome :=
  s.alu rd rs1 src (fun a b => a &&& ~~~b)

/-- `OR` (rule R115): `r[rd] <- a | b`. -/
def execOr (rd rs1 : RegNum) (src : Operand2) (s : State) : Outcome :=
  s.alu rd rs1 src (fun a b => a ||| b)

/-- `ORN` (rule R117): `r[rd] <- a | ~b`. -/
def execOrn (rd rs1 : RegNum) (src : Operand2) (s : State) : Outcome :=
  s.alu rd rs1 src (fun a b => a ||| ~~~b)

/-- `XOR` (rule R119): `r[rd] <- a ^ b`. -/
def execXor (rd rs1 : RegNum) (src : Operand2) (s : State) : Outcome :=
  s.alu rd rs1 src (fun a b => a ^^^ b)

/-- `XNOR` (rule R121): `r[rd] <- a ^ ~b`. -/
def execXnor (rd rs1 : RegNum) (src : Operand2) (s : State) : Outcome :=
  s.alu rd rs1 src (fun a b => a ^^^ ~~~b)

/-- `SLL` (rule R131): zeros enter at bit 0. -/
def execSll (rd rs1 : RegNum) (src : Operand2) (s : State) : Outcome :=
  s.alu rd rs1 src (fun a b => a <<< shiftCount b)

/-- `SRL` (rule R132): zeros enter at bit 31. -/
def execSrl (rd rs1 : RegNum) (src : Operand2) (s : State) : Outcome :=
  s.alu rd rs1 src (fun a b => a >>> shiftCount b)

/-- `SRA` (rule R133): copies of bit 31 enter at bit 31. -/
def execSra (rd rs1 : RegNum) (src : Operand2) (s : State) : Outcome :=
  s.alu rd rs1 src (fun a b => a.sshiftRight (shiftCount b))

/-- `ADDcc` (rule R102): the result of `ADD`, and the four condition codes. -/
def execAddcc (rd rs1 : RegNum) (src : Operand2) (s : State) : Outcome :=
  s.aluCc rd rs1 src (fun a b => addWords a b false) (fun a b => iccAdd a b false)

/-- `ADDXcc` (rule R104): the result of `ADDX`, and the four condition codes. -/
def execAddxcc (rd rs1 : RegNum) (src : Operand2) (s : State) : Outcome :=
  s.aluCc rd rs1 src (fun a b => addWords a b s.icc.c) (fun a b => iccAdd a b s.icc.c)

/-- `SUBcc` (rule R106): the result of `SUB`, and the four condition codes. -/
def execSubcc (rd rs1 : RegNum) (src : Operand2) (s : State) : Outcome :=
  s.aluCc rd rs1 src (fun a b => subWords a b false) (fun a b => iccSub a b false)

/-- `SUBXcc` (rule R108): the result of `SUBX`, and the four condition codes. -/
def execSubxcc (rd rs1 : RegNum) (src : Operand2) (s : State) : Outcome :=
  s.aluCc rd rs1 src (fun a b => subWords a b s.icc.c) (fun a b => iccSub a b s.icc.c)

/-- `ANDcc` (rule R112): the result of `AND`, and the condition codes of rule R110. -/
def execAndcc (rd rs1 : RegNum) (src : Operand2) (s : State) : Outcome :=
  s.logicCc rd rs1 src (fun a b => a &&& b)

/-- `ANDNcc` (rule R114): the result of `ANDN`, and the condition codes of rule R110. -/
def execAndncc (rd rs1 : RegNum) (src : Operand2) (s : State) : Outcome :=
  s.logicCc rd rs1 src (fun a b => a &&& ~~~b)

/-- `ORcc` (rule R116): the result of `OR`, and the condition codes of rule R110. -/
def execOrcc (rd rs1 : RegNum) (src : Operand2) (s : State) : Outcome :=
  s.logicCc rd rs1 src (fun a b => a ||| b)

/-- `ORNcc` (rule R118): the result of `ORN`, and the condition codes of rule R110. -/
def execOrncc (rd rs1 : RegNum) (src : Operand2) (s : State) : Outcome :=
  s.logicCc rd rs1 src (fun a b => a ||| ~~~b)

/-- `XORcc` (rule R120): the result of `XOR`, and the condition codes of rule R110. -/
def execXorcc (rd rs1 : RegNum) (src : Operand2) (s : State) : Outcome :=
  s.logicCc rd rs1 src (fun a b => a ^^^ b)

/-- `XNORcc` (rule R122): the result of `XNOR`, and the condition codes of rule R110. -/
def execXnorcc (rd rs1 : RegNum) (src : Operand2) (s : State) : Outcome :=
  s.logicCc rd rs1 src (fun a b => a ^^^ ~~~b)

end Sys2Proof.Machine
end

