-- ==== Sys2Proof/Machine/Control.lean ====
section
/-! DEFINITION. Branches, `CALL`, `JMPL` and the zero word (42_step_and_control_transfer.md). -/

namespace Sys2Proof.Machine

/-- The common rule of the sixteen branches (rule R170): a taken branch sets the latches, with a delay slot whatever
`a` is; one not taken with `a = 1` adds 4 to `PC`, so that the next word is never fetched; else nothing happens. -/
def State.branch (s : State) (cond : BitVec 4) (a : BitVec 1) (disp22 : BitVec 22) : Outcome :=
  if branchPred s.icc cond then .next (s.setLatches (s.pc + branchOffset disp22) true)
  else if a = 1#1 then .next { s with pc := s.pc + 4#32 }
  else .next s

/-- `BN` (rule R174): taken never. -/
def execBn (a : BitVec 1) (disp22 : BitVec 22) (s : State) : Outcome :=
  s.branch 0x0#4 a disp22

/-- `BE` (rule R175): taken when `Z`. -/
def execBe (a : BitVec 1) (disp22 : BitVec 22) (s : State) : Outcome :=
  s.branch 0x1#4 a disp22

/-- `BLE` (rule R176): taken when `Z or (N xor V)`. -/
def execBle (a : BitVec 1) (disp22 : BitVec 22) (s : State) : Outcome :=
  s.branch 0x2#4 a disp22

/-- `BL` (rule R177): taken when `N xor V`. -/
def execBl (a : BitVec 1) (disp22 : BitVec 22) (s : State) : Outcome :=
  s.branch 0x3#4 a disp22

/-- `BLEU` (rule R178): taken when `C or Z`. -/
def execBleu (a : BitVec 1) (disp22 : BitVec 22) (s : State) : Outcome :=
  s.branch 0x4#4 a disp22

/-- `BCS` (rule R179): taken when `C`. -/
def execBcs (a : BitVec 1) (disp22 : BitVec 22) (s : State) : Outcome :=
  s.branch 0x5#4 a disp22

/-- `BNEG` (rule R180): taken when `N`. -/
def execBneg (a : BitVec 1) (disp22 : BitVec 22) (s : State) : Outcome :=
  s.branch 0x6#4 a disp22

/-- `BVS` (rule R181): taken when `V`. -/
def execBvs (a : BitVec 1) (disp22 : BitVec 22) (s : State) : Outcome :=
  s.branch 0x7#4 a disp22

/-- `BA` (rule R182): taken always. -/
def execBa (a : BitVec 1) (disp22 : BitVec 22) (s : State) : Outcome :=
  s.branch 0x8#4 a disp22

/-- `BNE` (rule R183): taken when `not Z`. -/
def execBne (a : BitVec 1) (disp22 : BitVec 22) (s : State) : Outcome :=
  s.branch 0x9#4 a disp22

/-- `BG` (rule R184): taken when `not (Z or (N xor V))`. -/
def execBg (a : BitVec 1) (disp22 : BitVec 22) (s : State) : Outcome :=
  s.branch 0xA#4 a disp22

/-- `BGE` (rule R185): taken when `not (N xor V)`. -/
def execBge (a : BitVec 1) (disp22 : BitVec 22) (s : State) : Outcome :=
  s.branch 0xB#4 a disp22

/-- `BGU` (rule R186): taken when `not (C or Z)`. -/
def execBgu (a : BitVec 1) (disp22 : BitVec 22) (s : State) : Outcome :=
  s.branch 0xC#4 a disp22

/-- `BCC` (rule R187): taken when `not C`. -/
def execBcc (a : BitVec 1) (disp22 : BitVec 22) (s : State) : Outcome :=
  s.branch 0xD#4 a disp22

/-- `BPOS` (rule R188): taken when `not N`. -/
def execBpos (a : BitVec 1) (disp22 : BitVec 22) (s : State) : Outcome :=
  s.branch 0xE#4 a disp22

/-- `BVC` (rule R189): taken when `not V`. -/
def execBvc (a : BitVec 1) (disp22 : BitVec 22) (s : State) : Outcome :=
  s.branch 0xF#4 a disp22

/-- `CALL` (rule R172): `%o7` gets the word index of the call; a delay slot, then the target. -/
def execCall (disp30 : BitVec 30) (s : State) : Outcome :=
  .next ((s.writeReg 15#5 s.linkValue).setLatches (s.pc + callOffset disp30) true)

/-- `JMPL` (rule R173): the operand sum, read before `rd` is written, is the word index of the target; no delay slot. -/
def execJmpl (rd rs1 : RegNum) (src : Operand2) (s : State) : Outcome :=
  let target := (s.readReg rs1 + s.operand2 src) <<< 2
  .next ((s.writeReg rd s.linkValue).setLatches target false)

/-- `HALT0` (rule R163): the step answers `live = false` and writes nothing else (log 9). -/
def execHalt0 (s : State) : Outcome :=
  .next { s with live := false }

end Sys2Proof.Machine
end

