-- ==== Sys2Proof/Machine/LoadStore.lean ====
section
/-! DEFINITION. Integer loads and stores (44_load_store.md). -/

namespace Sys2Proof.Machine

/-- A load of `n` bytes into `rd`, extended by `ext` (rules R210 to R213, R219, R220). -/
def State.load (s : State) (rd rs1 : RegNum) (src : Operand2) (n : Nat) (ext : Word → Word) : Outcome :=
  match s.memRead (s.effAddr rs1 src) n with
  | .error f => .fault f
  | .ok v => .next (s.writeReg rd (ext v))

/-- A store of the low `n` bytes of `r[rd]` (rules R210, R215 to R217). -/
def State.store (s : State) (rd rs1 : RegNum) (src : Operand2) (n : Nat) : Outcome :=
  match s.memWrite (s.effAddr rs1 src) n (s.readReg rd) with
  | .error f => .fault f
  | .ok t => .next t

/-- The faults of a doubleword access at `ea`, in the order of rules R210 and R273: alignment to 8, then the bounds of
the word at `ea`, then those of the word at `ea + 4` modulo 2^32. -/
def State.doubleFault (s : State) (ea : Word) (kind : AccessKind) : Option Fault :=
  if s.misaligned ea 8 then some (.memBadAlignment s.pc ea 8)
  else match s.accessFault ea 4 kind with
    | some f => some f
    | none => s.accessFault (ea + 4#32) 4 kind

/-- `LD` (rule R211). -/
def execLd (rd rs1 : RegNum) (src : Operand2) (s : State) : Outcome :=
  s.load rd rs1 src 4 id

/-- `LDUB` (rule R212). -/
def execLdub (rd rs1 : RegNum) (src : Operand2) (s : State) : Outcome :=
  s.load rd rs1 src 1 (zext 8)

/-- `LDUH` (rule R213). -/
def execLduh (rd rs1 : RegNum) (src : Operand2) (s : State) : Outcome :=
  s.load rd rs1 src 2 (zext 16)

/-- `LDSB` (rule R219). -/
def execLdsb (rd rs1 : RegNum) (src : Operand2) (s : State) : Outcome :=
  s.load rd rs1 src 1 (sext 8)

/-- `LDSH` (rule R220). -/
def execLdsh (rd rs1 : RegNum) (src : Operand2) (s : State) : Outcome :=
  s.load rd rs1 src 2 (sext 16)

/-- `LDD` (rule R214): an odd `rd` is illegal; both words are read before either register is written. -/
def execLdd (rd rs1 : RegNum) (src : Operand2) (s : State) : Outcome :=
  let ea := s.effAddr rs1 src
  if rd.getLsbD 0 then s.raiseIllegal (.ldd rd rs1 src)
  else match s.doubleFault ea .read with
    | some f => .fault f
    | none =>
      let hi := s.mem.readBE ea.toNat 4
      let lo := s.mem.readBE (ea + 4#32).toNat 4
      .next ((s.writeReg rd hi).writeReg (rd + 1#5) lo)

/-- `ST` (rule R215). -/
def execSt (rd rs1 : RegNum) (src : Operand2) (s : State) : Outcome :=
  s.store rd rs1 src 4

/-- `STB` (rule R216). -/
def execStb (rd rs1 : RegNum) (src : Operand2) (s : State) : Outcome :=
  s.store rd rs1 src 1

/-- `STH` (rule R217). -/
def execSth (rd rs1 : RegNum) (src : Operand2) (s : State) : Outcome :=
  s.store rd rs1 src 2

/-- `STD` (rule R218): an odd `rd` is illegal; both words are checked before either is written. -/
def execStd (rd rs1 : RegNum) (src : Operand2) (s : State) : Outcome :=
  let ea := s.effAddr rs1 src
  if rd.getLsbD 0 then s.raiseIllegal (.std rd rs1 src)
  else match s.doubleFault ea .write with
    | some f => .fault f
    | none => .next ((s.storeBytes ea 4 (s.readReg rd)).storeBytes (ea + 4#32) 4 (s.readReg (rd + 1#5)))

end Sys2Proof.Machine
end

