-- ==== Sys2Proof/Machine/MulDiv.lean ====
section
/-! DEFINITION. Multiply and divide, by the functional definitions that rule R140 makes normative
(41_alu_muldiv.md). -/

namespace Sys2Proof.Machine

/-- `p = int(a) * int(b)` as 64 bits (rule R141). -/
def umulPair (a b : Word) : BitVec 64 := BitVec.ofNat 64 (a.toNat * b.toNat)

/-- `p = (sint(a) * sint(b)) mod 2^64` (rule R143). -/
def smulPair (a b : Word) : BitVec 64 := BitVec.ofInt 64 (a.toInt * b.toInt)

/-- The remainder word over the quotient word of the unsigned division of `a` by `b ≠ 0` (rule R146). -/
def udivPair (a b : Word) : BitVec 64 := BitVec.ofNat 32 (a.toNat % b.toNat) ++ BitVec.ofNat 32 (a.toNat / b.toNat)

/-- The pair of the division of the magnitudes, negated as one 64-bit number where the signs of the operands differ
(rule R148, decision D14; log 18). -/
def sdivPair (a b : Word) : BitVec 64 :=
  let pair := udivPair (magnitude a) (magnitude b)
  if isNeg a != isNeg b then neg64 pair else pair

/-- `Y <- pair[63:32]`, `r[rd] <- pair[31:0]`; `Y` is written also when `rd` is `%g0` (rules R141, R146). -/
def State.writePair (s : State) (rd : RegNum) (pair : BitVec 64) : State :=
  { s.writeReg rd (pairLow pair) with y := pairHigh pair }

/-- A multiplication by the product `f` (rules R141, R143). -/
def State.multiply (s : State) (rd rs1 : RegNum) (src : Operand2) (f : Word → Word → BitVec 64) : Outcome :=
  .next (s.writePair rd (f (s.readReg rs1) (s.operand2 src)))

/-- A multiplication that writes the condition codes (rules R142, R144). -/
def State.multiplyCc (s : State) (rd rs1 : RegNum) (src : Operand2) (f : Word → Word → BitVec 64)
    (flags : BitVec 64 → Icc) : Outcome :=
  let p := f (s.readReg rs1) (s.operand2 src)
  .next ((s.writePair rd p).writeIcc (flags p))

/-- A division (rules R146, R148): a zero divisor faults and nothing is written (rule R150). -/
def State.divide (s : State) (rd rs1 : RegNum) (src : Operand2) (f : Word → Word → BitVec 64) : Outcome :=
  let b := s.operand2 src
  if b = 0#32 then s.raiseDivisionByZero else .next (s.writePair rd (f (s.readReg rs1) b))

/-- A division whose condition codes the spec leaves unspecified (rules R147, R149; log 10). -/
def State.divideCc (s : State) (rd rs1 : RegNum) (src : Operand2) (f : Word → Word → BitVec 64) : Outcome :=
  let b := s.operand2 src
  if b = 0#32 then s.raiseDivisionByZero else .next (s.writePair rd (f (s.readReg rs1) b)).writeFreeIcc

/-- `UMUL` (rule R141): the low word to `rd`, the high word to `Y`. -/
def execUmul (rd rs1 : RegNum) (src : Operand2) (s : State) : Outcome :=
  s.multiply rd rs1 src umulPair

/-- `UMULcc` (rule R142): as `UMUL`, and the condition codes. -/
def execUmulcc (rd rs1 : RegNum) (src : Operand2) (s : State) : Outcome :=
  s.multiplyCc rd rs1 src umulPair iccUmul

/-- `SMUL` (rule R143): the exact signed product. -/
def execSmul (rd rs1 : RegNum) (src : Operand2) (s : State) : Outcome :=
  s.multiply rd rs1 src smulPair

/-- `SMULcc` (rule R144): as `SMUL`, and the condition codes. -/
def execSmulcc (rd rs1 : RegNum) (src : Operand2) (s : State) : Outcome :=
  s.multiplyCc rd rs1 src smulPair iccSmul

/-- `UDIV` (rule R146): the dividend is `r[rs1]` alone; quotient to `rd`, remainder to `Y`. -/
def execUdiv (rd rs1 : RegNum) (src : Operand2) (s : State) : Outcome :=
  s.divide rd rs1 src udivPair

/-- `UDIVcc` (rule R147): as `UDIV`, and four unspecified condition codes. -/
def execUdivcc (rd rs1 : RegNum) (src : Operand2) (s : State) : Outcome :=
  s.divideCc rd rs1 src udivPair

/-- `SDIV` (rule R148): quotient truncated toward zero to `rd`. -/
def execSdiv (rd rs1 : RegNum) (src : Operand2) (s : State) : Outcome :=
  s.divide rd rs1 src sdivPair

/-- `SDIVcc` (rule R149): as `SDIV`, and four unspecified condition codes. -/
def execSdivcc (rd rs1 : RegNum) (src : Operand2) (s : State) : Outcome :=
  s.divideCc rd rs1 src sdivPair

end Sys2Proof.Machine
end

