-- ==== Sys2Proof/Machine/NoOps.lean ====
section
/-! DEFINITION. The FPU and coprocessor encodings, which are no-ops (46_unexecuted_and_illegal.md rules R250 to
R253): no register, flag, memory byte or latch is written, no memory transaction is made and nothing faults. -/

namespace Sys2Proof.Machine

/-- `FBfcc` (rule R253): a no-op; no operand is read. -/
def execFbfcc (_a : BitVec 1) (_cond : BitVec 4) (_disp22 : BitVec 22) (s : State) : Outcome :=
  .next s

/-- `CBccc` (rule R253): a no-op; no operand is read. -/
def execCbccc (_a : BitVec 1) (_cond : BitVec 4) (_disp22 : BitVec 22) (s : State) : Outcome :=
  .next s

/-- `FPop1` (rule R251): a no-op; no operand is read. -/
def execFpop1 (_rd _rs1 : RegNum) (_opf : BitVec 9) (_rs2 : RegNum) (s : State) : Outcome :=
  .next s

/-- `FPop2` (rule R251): a no-op; no operand is read. -/
def execFpop2 (_rd _rs1 : RegNum) (_opf : BitVec 9) (_rs2 : RegNum) (s : State) : Outcome :=
  .next s

/-- `CPop1` (rule R251): a no-op; no operand is read. -/
def execCpop1 (_rd _rs1 : RegNum) (_opf : BitVec 9) (_rs2 : RegNum) (s : State) : Outcome :=
  .next s

/-- `CPop2` (rule R251): a no-op; no operand is read. -/
def execCpop2 (_rd _rs1 : RegNum) (_opf : BitVec 9) (_rs2 : RegNum) (s : State) : Outcome :=
  .next s

/-- `LDF` (rule R252): a no-op; no operand is read. -/
def execLdf (_rd _rs1 : RegNum) (_src : Operand2) (s : State) : Outcome :=
  .next s

/-- `LDFSR` (rule R252): a no-op; no operand is read. -/
def execLdfsr (_rd _rs1 : RegNum) (_src : Operand2) (s : State) : Outcome :=
  .next s

/-- `LDDF` (rule R252): a no-op; no operand is read. -/
def execLddf (_rd _rs1 : RegNum) (_src : Operand2) (s : State) : Outcome :=
  .next s

/-- `STF` (rule R252): a no-op; no operand is read. -/
def execStf (_rd _rs1 : RegNum) (_src : Operand2) (s : State) : Outcome :=
  .next s

/-- `STFSR` (rule R252): a no-op; no operand is read. -/
def execStfsr (_rd _rs1 : RegNum) (_src : Operand2) (s : State) : Outcome :=
  .next s

/-- `STDFQ` (rule R252): a no-op; no operand is read. -/
def execStdfq (_rd _rs1 : RegNum) (_src : Operand2) (s : State) : Outcome :=
  .next s

/-- `STDF` (rule R252): a no-op; no operand is read. -/
def execStdf (_rd _rs1 : RegNum) (_src : Operand2) (s : State) : Outcome :=
  .next s

/-- `LDC` (rule R252): a no-op; no operand is read. -/
def execLdc (_rd _rs1 : RegNum) (_src : Operand2) (s : State) : Outcome :=
  .next s

/-- `LDCSR` (rule R252): a no-op; no operand is read. -/
def execLdcsr (_rd _rs1 : RegNum) (_src : Operand2) (s : State) : Outcome :=
  .next s

/-- `LDDC` (rule R252): a no-op; no operand is read. -/
def execLddc (_rd _rs1 : RegNum) (_src : Operand2) (s : State) : Outcome :=
  .next s

/-- `STC` (rule R252): a no-op; no operand is read. -/
def execStc (_rd _rs1 : RegNum) (_src : Operand2) (s : State) : Outcome :=
  .next s

/-- `STCSR` (rule R252): a no-op; no operand is read. -/
def execStcsr (_rd _rs1 : RegNum) (_src : Operand2) (s : State) : Outcome :=
  .next s

/-- `STDCQ` (rule R252): a no-op; no operand is read. -/
def execStdcq (_rd _rs1 : RegNum) (_src : Operand2) (s : State) : Outcome :=
  .next s

/-- `STDC` (rule R252): a no-op; no operand is read. -/
def execStdc (_rd _rs1 : RegNum) (_src : Operand2) (s : State) : Outcome :=
  .next s

end Sys2Proof.Machine
end

