-- ==== Sys2Proof/Machine/Special.lean ====
section
/-! DEFINITION. `SETHI`, `NOP` and the special-register reads and writes
(43_sethi_and_special_registers.md). -/

namespace Sys2Proof.Machine

/-- A special-register read (rules R194 to R197): the whole register to `rd`; with `RD_PRIV_CHECK` only in supervisor
mode, and otherwise no effect. `rs1` and the second operand are not read. -/
def State.readSpecial (s : State) (rd : RegNum) (v : Word) : Outcome :=
  if !s.cfg.rdPrivCheck || s.supervisor then .next (s.writeReg rd v) else .next s

/-- The value a special-register write stores: `r[rs1] xor operand2` (rules R198 to R201). -/
def State.wrValue (s : State) (rs1 : RegNum) (src : Operand2) : Word := s.readReg rs1 ^^^ s.operand2 src

/-- A special-register write: `t` in supervisor mode, no effect and no fault in user mode (rules R198 to R201, R280). -/
def State.whenSupervisor (s t : State) : Outcome := if s.supervisor then .next t else .next s

/-- `SETHI` (rule R190): `imm22` in bits 31:10, zeros below. -/
def execSethi (rd : RegNum) (imm22 : BitVec 22) (s : State) : Outcome :=
  .next (s.writeReg rd (sethiValue imm22))

/-- `NOP` (rule R191): `sethi 0, %g0`, whose write is discarded. -/
def execNop (s : State) : Outcome :=
  .next (s.writeReg 0#5 (sethiValue 0#22))

/-- `RDY` (rule R194). -/
def execRdy (rd _rs1 : RegNum) (_src : Operand2) (s : State) : Outcome :=
  s.readSpecial rd s.y

/-- `RDPSR` (rule R195). -/
def execRdpsr (rd _rs1 : RegNum) (_src : Operand2) (s : State) : Outcome :=
  s.readSpecial rd s.psr

/-- `RDWIM` (rule R196). -/
def execRdwim (rd _rs1 : RegNum) (_src : Operand2) (s : State) : Outcome :=
  s.readSpecial rd s.wim

/-- `RDTBR` (rule R197). -/
def execRdtbr (rd _rs1 : RegNum) (_src : Operand2) (s : State) : Outcome :=
  s.readSpecial rd s.tbr

/-- `WRY` (rule R198): all 32 bits; the `rd` field is ignored. -/
def execWry (_rd rs1 : RegNum) (src : Operand2) (s : State) : Outcome :=
  s.whenSupervisor { s with y := s.wrValue rs1 src }

/-- `WRPSR` (rule R199): all 32 bits; the `rd` field is ignored. -/
def execWrpsr (_rd rs1 : RegNum) (src : Operand2) (s : State) : Outcome :=
  s.whenSupervisor { s with psr := s.wrValue rs1 src }

/-- `WRWIM` (rule R200): all 32 bits; the `rd` field is ignored. -/
def execWrwim (_rd rs1 : RegNum) (src : Operand2) (s : State) : Outcome :=
  s.whenSupervisor { s with wim := s.wrValue rs1 src }

/-- `WRTBR` (rule R201): all 32 bits; the `rd` field is ignored. -/
def execWrtbr (_rd rs1 : RegNum) (src : Operand2) (s : State) : Outcome :=
  s.whenSupervisor { s with tbr := s.wrValue rs1 src }

end Sys2Proof.Machine
end

