-- ==== Sys2Proof/Machine/Unexecuted.lean ====
section
/-! DEFINITION. The words that fault whatever the state: decoded but not executed, and illegal
(46_unexecuted_and_illegal.md rules R254 to R259). -/

namespace Sys2Proof.Machine

/-- `UNIMP` (rule R258): illegal. -/
def execUnimp (rd : RegNum) (const22 : BitVec 22) (s : State) : Outcome :=
  s.raiseIllegal (.unimp rd const22)

/-- `RESERVED_OP2_1` (rule R258): illegal. -/
def execReservedOp2_1 (rd : RegNum) (low22 : BitVec 22) (s : State) : Outcome :=
  s.raiseIllegal (.reservedOp2_1 rd low22)

/-- `RESERVED_OP2_3` (rule R258): illegal. -/
def execReservedOp2_3 (rd : RegNum) (low22 : BitVec 22) (s : State) : Outcome :=
  s.raiseIllegal (.reservedOp2_3 rd low22)

/-- `RESERVED_OP2_5` (rule R258): illegal. -/
def execReservedOp2_5 (rd : RegNum) (low22 : BitVec 22) (s : State) : Outcome :=
  s.raiseIllegal (.reservedOp2_5 rd low22)

/-- `RESERVED_OP2_OP3_09` (rule R258): illegal. -/
def execReservedArith09 (rd : RegNum) (low19 : BitVec 19) (s : State) : Outcome :=
  s.raiseIllegal (.reservedArith09 rd low19)

/-- `RESERVED_OP2_OP3_0D` (rule R258): illegal. -/
def execReservedArith0D (rd : RegNum) (low19 : BitVec 19) (s : State) : Outcome :=
  s.raiseIllegal (.reservedArith0D rd low19)

/-- `RESERVED_OP2_OP3_19` (rule R258): illegal. -/
def execReservedArith19 (rd : RegNum) (low19 : BitVec 19) (s : State) : Outcome :=
  s.raiseIllegal (.reservedArith19 rd low19)

/-- `RESERVED_OP2_OP3_1D` (rule R258): illegal. -/
def execReservedArith1D (rd : RegNum) (low19 : BitVec 19) (s : State) : Outcome :=
  s.raiseIllegal (.reservedArith1D rd low19)

/-- `TADDcc` (rule R258): illegal. -/
def execTaddcc (rd rs1 : RegNum) (src : Operand2) (s : State) : Outcome :=
  s.raiseIllegal (.taddcc rd rs1 src)

/-- `TSUBcc` (rule R258): illegal. -/
def execTsubcc (rd rs1 : RegNum) (src : Operand2) (s : State) : Outcome :=
  s.raiseIllegal (.tsubcc rd rs1 src)

/-- `TADDccTV` (rule R258): illegal. -/
def execTaddcctv (rd rs1 : RegNum) (src : Operand2) (s : State) : Outcome :=
  s.raiseIllegal (.taddcctv rd rs1 src)

/-- `TSUBccTV` (rule R258): illegal. -/
def execTsubcctv (rd rs1 : RegNum) (src : Operand2) (s : State) : Outcome :=
  s.raiseIllegal (.tsubcctv rd rs1 src)

/-- `MULScc` (rule R258): illegal. -/
def execMulscc (rd rs1 : RegNum) (src : Operand2) (s : State) : Outcome :=
  s.raiseIllegal (.mulscc rd rs1 src)

/-- `RESERVED_OP2_OP3_2C` (rule R258): illegal. -/
def execReservedArith2C (rd : RegNum) (low19 : BitVec 19) (s : State) : Outcome :=
  s.raiseIllegal (.reservedArith2C rd low19)

/-- `RESERVED_OP2_OP3_2D` (rule R258): illegal. -/
def execReservedArith2D (rd : RegNum) (low19 : BitVec 19) (s : State) : Outcome :=
  s.raiseIllegal (.reservedArith2D rd low19)

/-- `RESERVED_OP2_OP3_2E` (rule R258): illegal. -/
def execReservedArith2E (rd : RegNum) (low19 : BitVec 19) (s : State) : Outcome :=
  s.raiseIllegal (.reservedArith2E rd low19)

/-- `RESERVED_OP2_OP3_2F` (rule R258): illegal. -/
def execReservedArith2F (rd : RegNum) (low19 : BitVec 19) (s : State) : Outcome :=
  s.raiseIllegal (.reservedArith2F rd low19)

/-- `RETT` (rule R259): faults, whatever its fields hold. -/
def execRett (rd rs1 : RegNum) (src : Operand2) (s : State) : Outcome :=
  s.raiseUnimplemented (.rett rd rs1 src)

/-- `Ticc` (rule R254): faults, whatever its fields hold. -/
def execTicc (bit29 : BitVec 1) (cond : BitVec 4) (rs1 : RegNum) (src : Operand2) (s : State) : Outcome :=
  s.raiseUnimplemented (.ticc bit29 cond rs1 src)

/-- `FLUSH` (rule R255): faults, whatever its fields hold. -/
def execFlush (rd rs1 : RegNum) (src : Operand2) (s : State) : Outcome :=
  s.raiseUnimplemented (.flush rd rs1 src)

/-- `RESERVED_OP2_OP3_3E` (rule R258): illegal. -/
def execReservedArith3E (rd : RegNum) (low19 : BitVec 19) (s : State) : Outcome :=
  s.raiseIllegal (.reservedArith3E rd low19)

/-- `RESERVED_OP2_OP3_3F` (rule R258): illegal. -/
def execReservedArith3F (rd : RegNum) (low19 : BitVec 19) (s : State) : Outcome :=
  s.raiseIllegal (.reservedArith3F rd low19)

/-- `RESERVED_OP3_OP3_08` (rule R258): illegal. -/
def execReservedMem08 (rd : RegNum) (low19 : BitVec 19) (s : State) : Outcome :=
  s.raiseIllegal (.reservedMem08 rd low19)

/-- `RESERVED_OP3_OP3_0B` (rule R258): illegal. -/
def execReservedMem0B (rd : RegNum) (low19 : BitVec 19) (s : State) : Outcome :=
  s.raiseIllegal (.reservedMem0B rd low19)

/-- `RESERVED_OP3_OP3_0C` (rule R258): illegal. -/
def execReservedMem0C (rd : RegNum) (low19 : BitVec 19) (s : State) : Outcome :=
  s.raiseIllegal (.reservedMem0C rd low19)

/-- `LDSTUB` (rule R258): illegal. -/
def execLdstub (rd rs1 : RegNum) (src : Operand2) (s : State) : Outcome :=
  s.raiseIllegal (.ldstub rd rs1 src)

/-- `RESERVED_OP3_OP3_0E` (rule R258): illegal. -/
def execReservedMem0E (rd : RegNum) (low19 : BitVec 19) (s : State) : Outcome :=
  s.raiseIllegal (.reservedMem0E rd low19)

/-- `SWAP` (rule R258): illegal. -/
def execSwap (rd rs1 : RegNum) (src : Operand2) (s : State) : Outcome :=
  s.raiseIllegal (.swap rd rs1 src)

/-- `LDA` (rule R256): faults, whatever its fields hold. -/
def execLda (rd rs1 : RegNum) (src : Operand2) (s : State) : Outcome :=
  s.raiseUnimplemented (.lda rd rs1 src)

/-- `LDUBA` (rule R256): faults, whatever its fields hold. -/
def execLduba (rd rs1 : RegNum) (src : Operand2) (s : State) : Outcome :=
  s.raiseUnimplemented (.lduba rd rs1 src)

/-- `LDUHA` (rule R256): faults, whatever its fields hold. -/
def execLduha (rd rs1 : RegNum) (src : Operand2) (s : State) : Outcome :=
  s.raiseUnimplemented (.lduha rd rs1 src)

/-- `LDDA` (rule R256): faults, whatever its fields hold. -/
def execLdda (rd rs1 : RegNum) (src : Operand2) (s : State) : Outcome :=
  s.raiseUnimplemented (.ldda rd rs1 src)

/-- `STA` (rule R256): faults, whatever its fields hold. -/
def execSta (rd rs1 : RegNum) (src : Operand2) (s : State) : Outcome :=
  s.raiseUnimplemented (.sta rd rs1 src)

/-- `STBA` (rule R256): faults, whatever its fields hold. -/
def execStba (rd rs1 : RegNum) (src : Operand2) (s : State) : Outcome :=
  s.raiseUnimplemented (.stba rd rs1 src)

/-- `STHA` (rule R256): faults, whatever its fields hold. -/
def execStha (rd rs1 : RegNum) (src : Operand2) (s : State) : Outcome :=
  s.raiseUnimplemented (.stha rd rs1 src)

/-- `STDA` (rule R256): faults, whatever its fields hold. -/
def execStda (rd rs1 : RegNum) (src : Operand2) (s : State) : Outcome :=
  s.raiseUnimplemented (.stda rd rs1 src)

/-- `RESERVED_OP3_OP3_18` (rule R258): illegal. -/
def execReservedMem18 (rd : RegNum) (low19 : BitVec 19) (s : State) : Outcome :=
  s.raiseIllegal (.reservedMem18 rd low19)

/-- `LDSBA` (rule R256): faults, whatever its fields hold. -/
def execLdsba (rd rs1 : RegNum) (src : Operand2) (s : State) : Outcome :=
  s.raiseUnimplemented (.ldsba rd rs1 src)

/-- `LDSHA` (rule R256): faults, whatever its fields hold. -/
def execLdsha (rd rs1 : RegNum) (src : Operand2) (s : State) : Outcome :=
  s.raiseUnimplemented (.ldsha rd rs1 src)

/-- `RESERVED_OP3_OP3_1B` (rule R258): illegal. -/
def execReservedMem1B (rd : RegNum) (low19 : BitVec 19) (s : State) : Outcome :=
  s.raiseIllegal (.reservedMem1B rd low19)

/-- `RESERVED_OP3_OP3_1C` (rule R258): illegal. -/
def execReservedMem1C (rd : RegNum) (low19 : BitVec 19) (s : State) : Outcome :=
  s.raiseIllegal (.reservedMem1C rd low19)

/-- `LDSTUBA` (rule R258): illegal. -/
def execLdstuba (rd rs1 : RegNum) (src : Operand2) (s : State) : Outcome :=
  s.raiseIllegal (.ldstuba rd rs1 src)

/-- `RESERVED_OP3_OP3_1E` (rule R258): illegal. -/
def execReservedMem1E (rd : RegNum) (low19 : BitVec 19) (s : State) : Outcome :=
  s.raiseIllegal (.reservedMem1E rd low19)

/-- `SWAPA` (rule R258): illegal. -/
def execSwapa (rd rs1 : RegNum) (src : Operand2) (s : State) : Outcome :=
  s.raiseIllegal (.swapa rd rs1 src)

/-- `RESERVED_OP3_OP3_22` (rule R258): illegal. -/
def execReservedMem22 (rd : RegNum) (low19 : BitVec 19) (s : State) : Outcome :=
  s.raiseIllegal (.reservedMem22 rd low19)

/-- `RESERVED_OP3_OP3_28` (rule R258): illegal. -/
def execReservedMem28 (rd : RegNum) (low19 : BitVec 19) (s : State) : Outcome :=
  s.raiseIllegal (.reservedMem28 rd low19)

/-- `RESERVED_OP3_OP3_29` (rule R258): illegal. -/
def execReservedMem29 (rd : RegNum) (low19 : BitVec 19) (s : State) : Outcome :=
  s.raiseIllegal (.reservedMem29 rd low19)

/-- `RESERVED_OP3_OP3_2A` (rule R258): illegal. -/
def execReservedMem2A (rd : RegNum) (low19 : BitVec 19) (s : State) : Outcome :=
  s.raiseIllegal (.reservedMem2A rd low19)

/-- `RESERVED_OP3_OP3_2B` (rule R258): illegal. -/
def execReservedMem2B (rd : RegNum) (low19 : BitVec 19) (s : State) : Outcome :=
  s.raiseIllegal (.reservedMem2B rd low19)

/-- `RESERVED_OP3_OP3_2C` (rule R258): illegal. -/
def execReservedMem2C (rd : RegNum) (low19 : BitVec 19) (s : State) : Outcome :=
  s.raiseIllegal (.reservedMem2C rd low19)

/-- `RESERVED_OP3_OP3_2D` (rule R258): illegal. -/
def execReservedMem2D (rd : RegNum) (low19 : BitVec 19) (s : State) : Outcome :=
  s.raiseIllegal (.reservedMem2D rd low19)

/-- `RESERVED_OP3_OP3_2E` (rule R258): illegal. -/
def execReservedMem2E (rd : RegNum) (low19 : BitVec 19) (s : State) : Outcome :=
  s.raiseIllegal (.reservedMem2E rd low19)

/-- `RESERVED_OP3_OP3_2F` (rule R258): illegal. -/
def execReservedMem2F (rd : RegNum) (low19 : BitVec 19) (s : State) : Outcome :=
  s.raiseIllegal (.reservedMem2F rd low19)

/-- `RESERVED_OP3_OP3_32` (rule R258): illegal. -/
def execReservedMem32 (rd : RegNum) (low19 : BitVec 19) (s : State) : Outcome :=
  s.raiseIllegal (.reservedMem32 rd low19)

/-- `RESERVED_OP3_OP3_38` (rule R258): illegal. -/
def execReservedMem38 (rd : RegNum) (low19 : BitVec 19) (s : State) : Outcome :=
  s.raiseIllegal (.reservedMem38 rd low19)

/-- `RESERVED_OP3_OP3_39` (rule R258): illegal. -/
def execReservedMem39 (rd : RegNum) (low19 : BitVec 19) (s : State) : Outcome :=
  s.raiseIllegal (.reservedMem39 rd low19)

/-- `RESERVED_OP3_OP3_3A` (rule R258): illegal. -/
def execReservedMem3A (rd : RegNum) (low19 : BitVec 19) (s : State) : Outcome :=
  s.raiseIllegal (.reservedMem3A rd low19)

/-- `RESERVED_OP3_OP3_3B` (rule R258): illegal. -/
def execReservedMem3B (rd : RegNum) (low19 : BitVec 19) (s : State) : Outcome :=
  s.raiseIllegal (.reservedMem3B rd low19)

/-- `RESERVED_OP3_OP3_3C` (rule R258): illegal. -/
def execReservedMem3C (rd : RegNum) (low19 : BitVec 19) (s : State) : Outcome :=
  s.raiseIllegal (.reservedMem3C rd low19)

/-- `RESERVED_OP3_OP3_3D` (rule R258): illegal. -/
def execReservedMem3D (rd : RegNum) (low19 : BitVec 19) (s : State) : Outcome :=
  s.raiseIllegal (.reservedMem3D rd low19)

/-- `RESERVED_OP3_OP3_3E` (rule R258): illegal. -/
def execReservedMem3E (rd : RegNum) (low19 : BitVec 19) (s : State) : Outcome :=
  s.raiseIllegal (.reservedMem3E rd low19)

/-- `RESERVED_OP3_OP3_3F` (rule R258): illegal. -/
def execReservedMem3F (rd : RegNum) (low19 : BitVec 19) (s : State) : Outcome :=
  s.raiseIllegal (.reservedMem3F rd low19)

end Sys2Proof.Machine
end

