-- ==== Sys2Proof/Machine/Window.lean ====
section
/-! DEFINITION. Window rotation (45_window.md). -/

namespace Sys2Proof.Machine

/-- `SAVE` and `RESTORE` (rules R242, R243): the sum is read in the old window, the window rotates, and `rd` is named
in the new window. -/
def State.rotateAdd (s : State) (rd rs1 : RegNum) (src : Operand2) (d : Rotation) : Outcome :=
  .next ((s.rotate d).writeReg rd (s.readReg rs1 + s.operand2 src))

/-- `SAVE` (rule R242). -/
def execSave (rd rs1 : RegNum) (src : Operand2) (s : State) : Outcome :=
  s.rotateAdd rd rs1 src .save

/-- `RESTORE` (rule R243). -/
def execRestore (rd rs1 : RegNum) (src : Operand2) (s : State) : Outcome :=
  s.rotateAdd rd rs1 src .restore

end Sys2Proof.Machine
end

