-- ==== Sys2Proof/Machine/Dispatch.lean ====
section
/-! DEFINITION. Every instruction and its meaning: one arm per constructor of Instr
(42_step_and_control_transfer.md rule R162). -/

namespace Sys2Proof.Machine

/-- The effect of the instruction itself; the phases around it are `step`'s. -/
def exec (i : Instr) (s : State) : Host.Outcome State Fault Refusal :=
  match i with
  | .halt0 => Sys2Proof.Machine.execHalt0 s
  | .unimp rd const22 => Sys2Proof.Machine.execUnimp rd const22 s
  | .reservedOp2_1 rd low22 => Sys2Proof.Machine.execReservedOp2_1 rd low22 s
  | .reservedOp2_3 rd low22 => Sys2Proof.Machine.execReservedOp2_3 rd low22 s
  | .reservedOp2_5 rd low22 => Sys2Proof.Machine.execReservedOp2_5 rd low22 s
  | .bn a disp22 => Sys2Proof.Machine.execBn a disp22 s
  | .be a disp22 => Sys2Proof.Machine.execBe a disp22 s
  | .ble a disp22 => Sys2Proof.Machine.execBle a disp22 s
  | .bl a disp22 => Sys2Proof.Machine.execBl a disp22 s
  | .bleu a disp22 => Sys2Proof.Machine.execBleu a disp22 s
  | .bcs a disp22 => Sys2Proof.Machine.execBcs a disp22 s
  | .bneg a disp22 => Sys2Proof.Machine.execBneg a disp22 s
  | .bvs a disp22 => Sys2Proof.Machine.execBvs a disp22 s
  | .ba a disp22 => Sys2Proof.Machine.execBa a disp22 s
  | .bne a disp22 => Sys2Proof.Machine.execBne a disp22 s
  | .bg a disp22 => Sys2Proof.Machine.execBg a disp22 s
  | .bge a disp22 => Sys2Proof.Machine.execBge a disp22 s
  | .bgu a disp22 => Sys2Proof.Machine.execBgu a disp22 s
  | .bcc a disp22 => Sys2Proof.Machine.execBcc a disp22 s
  | .bpos a disp22 => Sys2Proof.Machine.execBpos a disp22 s
  | .bvc a disp22 => Sys2Proof.Machine.execBvc a disp22 s
  | .nop => Sys2Proof.Machine.execNop s
  | .sethi rd imm22 => Sys2Proof.Machine.execSethi rd imm22 s
  | .fbfcc a cond disp22 => Sys2Proof.Machine.execFbfcc a cond disp22 s
  | .cbccc a cond disp22 => Sys2Proof.Machine.execCbccc a cond disp22 s
  | .call disp30 => Sys2Proof.Machine.execCall disp30 s
  | .add rd rs1 src => Sys2Proof.Machine.execAdd rd rs1 src s
  | .and rd rs1 src => Sys2Proof.Machine.execAnd rd rs1 src s
  | .or rd rs1 src => Sys2Proof.Machine.execOr rd rs1 src s
  | .xor rd rs1 src => Sys2Proof.Machine.execXor rd rs1 src s
  | .sub rd rs1 src => Sys2Proof.Machine.execSub rd rs1 src s
  | .andn rd rs1 src => Sys2Proof.Machine.execAndn rd rs1 src s
  | .orn rd rs1 src => Sys2Proof.Machine.execOrn rd rs1 src s
  | .xnor rd rs1 src => Sys2Proof.Machine.execXnor rd rs1 src s
  | .addx rd rs1 src => Sys2Proof.Machine.execAddx rd rs1 src s
  | .reservedArith09 rd low19 => Sys2Proof.Machine.execReservedArith09 rd low19 s
  | .umul rd rs1 src => Sys2Proof.Machine.execUmul rd rs1 src s
  | .smul rd rs1 src => Sys2Proof.Machine.execSmul rd rs1 src s
  | .subx rd rs1 src => Sys2Proof.Machine.execSubx rd rs1 src s
  | .reservedArith0D rd low19 => Sys2Proof.Machine.execReservedArith0D rd low19 s
  | .udiv rd rs1 src => Sys2Proof.Machine.execUdiv rd rs1 src s
  | .sdiv rd rs1 src => Sys2Proof.Machine.execSdiv rd rs1 src s
  | .addcc rd rs1 src => Sys2Proof.Machine.execAddcc rd rs1 src s
  | .andcc rd rs1 src => Sys2Proof.Machine.execAndcc rd rs1 src s
  | .orcc rd rs1 src => Sys2Proof.Machine.execOrcc rd rs1 src s
  | .xorcc rd rs1 src => Sys2Proof.Machine.execXorcc rd rs1 src s
  | .subcc rd rs1 src => Sys2Proof.Machine.execSubcc rd rs1 src s
  | .andncc rd rs1 src => Sys2Proof.Machine.execAndncc rd rs1 src s
  | .orncc rd rs1 src => Sys2Proof.Machine.execOrncc rd rs1 src s
  | .xnorcc rd rs1 src => Sys2Proof.Machine.execXnorcc rd rs1 src s
  | .addxcc rd rs1 src => Sys2Proof.Machine.execAddxcc rd rs1 src s
  | .reservedArith19 rd low19 => Sys2Proof.Machine.execReservedArith19 rd low19 s
  | .umulcc rd rs1 src => Sys2Proof.Machine.execUmulcc rd rs1 src s
  | .smulcc rd rs1 src => Sys2Proof.Machine.execSmulcc rd rs1 src s
  | .subxcc rd rs1 src => Sys2Proof.Machine.execSubxcc rd rs1 src s
  | .reservedArith1D rd low19 => Sys2Proof.Machine.execReservedArith1D rd low19 s
  | .udivcc rd rs1 src => Sys2Proof.Machine.execUdivcc rd rs1 src s
  | .sdivcc rd rs1 src => Sys2Proof.Machine.execSdivcc rd rs1 src s
  | .taddcc rd rs1 src => Sys2Proof.Machine.execTaddcc rd rs1 src s
  | .tsubcc rd rs1 src => Sys2Proof.Machine.execTsubcc rd rs1 src s
  | .taddcctv rd rs1 src => Sys2Proof.Machine.execTaddcctv rd rs1 src s
  | .tsubcctv rd rs1 src => Sys2Proof.Machine.execTsubcctv rd rs1 src s
  | .mulscc rd rs1 src => Sys2Proof.Machine.execMulscc rd rs1 src s
  | .sll rd rs1 src => Sys2Proof.Machine.execSll rd rs1 src s
  | .srl rd rs1 src => Sys2Proof.Machine.execSrl rd rs1 src s
  | .sra rd rs1 src => Sys2Proof.Machine.execSra rd rs1 src s
  | .rdy rd rs1 src => Sys2Proof.Machine.execRdy rd rs1 src s
  | .rdpsr rd rs1 src => Sys2Proof.Machine.execRdpsr rd rs1 src s
  | .rdwim rd rs1 src => Sys2Proof.Machine.execRdwim rd rs1 src s
  | .rdtbr rd rs1 src => Sys2Proof.Machine.execRdtbr rd rs1 src s
  | .reservedArith2C rd low19 => Sys2Proof.Machine.execReservedArith2C rd low19 s
  | .reservedArith2D rd low19 => Sys2Proof.Machine.execReservedArith2D rd low19 s
  | .reservedArith2E rd low19 => Sys2Proof.Machine.execReservedArith2E rd low19 s
  | .reservedArith2F rd low19 => Sys2Proof.Machine.execReservedArith2F rd low19 s
  | .wry rd rs1 src => Sys2Proof.Machine.execWry rd rs1 src s
  | .wrpsr rd rs1 src => Sys2Proof.Machine.execWrpsr rd rs1 src s
  | .wrwim rd rs1 src => Sys2Proof.Machine.execWrwim rd rs1 src s
  | .wrtbr rd rs1 src => Sys2Proof.Machine.execWrtbr rd rs1 src s
  | .fpop1 rd rs1 opf rs2 => Sys2Proof.Machine.execFpop1 rd rs1 opf rs2 s
  | .fpop2 rd rs1 opf rs2 => Sys2Proof.Machine.execFpop2 rd rs1 opf rs2 s
  | .cpop1 rd rs1 opf rs2 => Sys2Proof.Machine.execCpop1 rd rs1 opf rs2 s
  | .cpop2 rd rs1 opf rs2 => Sys2Proof.Machine.execCpop2 rd rs1 opf rs2 s
  | .jmpl rd rs1 src => Sys2Proof.Machine.execJmpl rd rs1 src s
  | .rett rd rs1 src => Sys2Proof.Machine.execRett rd rs1 src s
  | .ticc bit29 cond rs1 src => Sys2Proof.Machine.execTicc bit29 cond rs1 src s
  | .flush rd rs1 src => Sys2Proof.Machine.execFlush rd rs1 src s
  | .save rd rs1 src => Sys2Proof.Machine.execSave rd rs1 src s
  | .restore rd rs1 src => Sys2Proof.Machine.execRestore rd rs1 src s
  | .reservedArith3E rd low19 => Sys2Proof.Machine.execReservedArith3E rd low19 s
  | .reservedArith3F rd low19 => Sys2Proof.Machine.execReservedArith3F rd low19 s
  | .ld rd rs1 src => Sys2Proof.Machine.execLd rd rs1 src s
  | .ldub rd rs1 src => Sys2Proof.Machine.execLdub rd rs1 src s
  | .lduh rd rs1 src => Sys2Proof.Machine.execLduh rd rs1 src s
  | .ldd rd rs1 src => Sys2Proof.Machine.execLdd rd rs1 src s
  | .st rd rs1 src => Sys2Proof.Machine.execSt rd rs1 src s
  | .stb rd rs1 src => Sys2Proof.Machine.execStb rd rs1 src s
  | .sth rd rs1 src => Sys2Proof.Machine.execSth rd rs1 src s
  | .std rd rs1 src => Sys2Proof.Machine.execStd rd rs1 src s
  | .reservedMem08 rd low19 => Sys2Proof.Machine.execReservedMem08 rd low19 s
  | .ldsb rd rs1 src => Sys2Proof.Machine.execLdsb rd rs1 src s
  | .ldsh rd rs1 src => Sys2Proof.Machine.execLdsh rd rs1 src s
  | .reservedMem0B rd low19 => Sys2Proof.Machine.execReservedMem0B rd low19 s
  | .reservedMem0C rd low19 => Sys2Proof.Machine.execReservedMem0C rd low19 s
  | .ldstub rd rs1 src => Sys2Proof.Machine.execLdstub rd rs1 src s
  | .reservedMem0E rd low19 => Sys2Proof.Machine.execReservedMem0E rd low19 s
  | .swap rd rs1 src => Sys2Proof.Machine.execSwap rd rs1 src s
  | .lda rd rs1 src => Sys2Proof.Machine.execLda rd rs1 src s
  | .lduba rd rs1 src => Sys2Proof.Machine.execLduba rd rs1 src s
  | .lduha rd rs1 src => Sys2Proof.Machine.execLduha rd rs1 src s
  | .ldda rd rs1 src => Sys2Proof.Machine.execLdda rd rs1 src s
  | .sta rd rs1 src => Sys2Proof.Machine.execSta rd rs1 src s
  | .stba rd rs1 src => Sys2Proof.Machine.execStba rd rs1 src s
  | .stha rd rs1 src => Sys2Proof.Machine.execStha rd rs1 src s
  | .stda rd rs1 src => Sys2Proof.Machine.execStda rd rs1 src s
  | .reservedMem18 rd low19 => Sys2Proof.Machine.execReservedMem18 rd low19 s
  | .ldsba rd rs1 src => Sys2Proof.Machine.execLdsba rd rs1 src s
  | .ldsha rd rs1 src => Sys2Proof.Machine.execLdsha rd rs1 src s
  | .reservedMem1B rd low19 => Sys2Proof.Machine.execReservedMem1B rd low19 s
  | .reservedMem1C rd low19 => Sys2Proof.Machine.execReservedMem1C rd low19 s
  | .ldstuba rd rs1 src => Sys2Proof.Machine.execLdstuba rd rs1 src s
  | .reservedMem1E rd low19 => Sys2Proof.Machine.execReservedMem1E rd low19 s
  | .swapa rd rs1 src => Sys2Proof.Machine.execSwapa rd rs1 src s
  | .ldf rd rs1 src => Sys2Proof.Machine.execLdf rd rs1 src s
  | .ldfsr rd rs1 src => Sys2Proof.Machine.execLdfsr rd rs1 src s
  | .reservedMem22 rd low19 => Sys2Proof.Machine.execReservedMem22 rd low19 s
  | .lddf rd rs1 src => Sys2Proof.Machine.execLddf rd rs1 src s
  | .stf rd rs1 src => Sys2Proof.Machine.execStf rd rs1 src s
  | .stfsr rd rs1 src => Sys2Proof.Machine.execStfsr rd rs1 src s
  | .stdfq rd rs1 src => Sys2Proof.Machine.execStdfq rd rs1 src s
  | .stdf rd rs1 src => Sys2Proof.Machine.execStdf rd rs1 src s
  | .reservedMem28 rd low19 => Sys2Proof.Machine.execReservedMem28 rd low19 s
  | .reservedMem29 rd low19 => Sys2Proof.Machine.execReservedMem29 rd low19 s
  | .reservedMem2A rd low19 => Sys2Proof.Machine.execReservedMem2A rd low19 s
  | .reservedMem2B rd low19 => Sys2Proof.Machine.execReservedMem2B rd low19 s
  | .reservedMem2C rd low19 => Sys2Proof.Machine.execReservedMem2C rd low19 s
  | .reservedMem2D rd low19 => Sys2Proof.Machine.execReservedMem2D rd low19 s
  | .reservedMem2E rd low19 => Sys2Proof.Machine.execReservedMem2E rd low19 s
  | .reservedMem2F rd low19 => Sys2Proof.Machine.execReservedMem2F rd low19 s
  | .ldc rd rs1 src => Sys2Proof.Machine.execLdc rd rs1 src s
  | .ldcsr rd rs1 src => Sys2Proof.Machine.execLdcsr rd rs1 src s
  | .reservedMem32 rd low19 => Sys2Proof.Machine.execReservedMem32 rd low19 s
  | .lddc rd rs1 src => Sys2Proof.Machine.execLddc rd rs1 src s
  | .stc rd rs1 src => Sys2Proof.Machine.execStc rd rs1 src s
  | .stcsr rd rs1 src => Sys2Proof.Machine.execStcsr rd rs1 src s
  | .stdcq rd rs1 src => Sys2Proof.Machine.execStdcq rd rs1 src s
  | .stdc rd rs1 src => Sys2Proof.Machine.execStdc rd rs1 src s
  | .reservedMem38 rd low19 => Sys2Proof.Machine.execReservedMem38 rd low19 s
  | .reservedMem39 rd low19 => Sys2Proof.Machine.execReservedMem39 rd low19 s
  | .reservedMem3A rd low19 => Sys2Proof.Machine.execReservedMem3A rd low19 s
  | .reservedMem3B rd low19 => Sys2Proof.Machine.execReservedMem3B rd low19 s
  | .reservedMem3C rd low19 => Sys2Proof.Machine.execReservedMem3C rd low19 s
  | .reservedMem3D rd low19 => Sys2Proof.Machine.execReservedMem3D rd low19 s
  | .reservedMem3E rd low19 => Sys2Proof.Machine.execReservedMem3E rd low19 s
  | .reservedMem3F rd low19 => Sys2Proof.Machine.execReservedMem3F rd low19 s

end Sys2Proof.Machine
end

