-- ==== Sys2Proof/Machine/Driver.lean ====
section
/-! DEFINITION. What the driver does between steps (00_scope.md rules R3, R4; 70_reset_and_hazards.md rules R290,
R296). Nothing here is part of a step (log 21). -/

namespace Sys2Proof.Machine

/-- `init` (rule R290): the program counters, `PSR`, `WIM`, `TBR`, the latches and the indicators get their reset
values; the general registers, `Y`, `FSR` and memory are not written. `live` is that of a core that has not stepped
yet (log 8). -/
def State.init (s : State) : State :=
  { s with
    pc := 0xFFFFFFFF#32
    npc := 0#32
    psr := s.cfg.psrReset
    wim := s.cfg.wimReset
    tbr := s.cfg.tbrReset
    branchPending := false
    executeDelaySlot := false
    branchTarget := 0#32
    wovf := false
    wunf := false
    live := true }

/-- The words of a program image written big-endian from the byte address `a` on (rule R296). -/
def Memory.storeWords (m : Memory) (a : Nat) : List Word → Memory
  | [] => m
  | w :: rest => (m.writeBE a w 4).storeWords (a + 4) rest

/-- The driver loads a program image at `PROGRAM_BASE` (rule R296); none where it does not fit in memory. -/
def State.loadProgram (s : State) (image : List Word) : Option State :=
  if s.cfg.programBase.toNat + 4 * image.length ≤ s.cfg.memSize then
    some { s with mem := s.mem.storeWords s.cfg.programBase.toNat image }
  else none

/-- One instruction word placed where the next step fetches, at `nPC`; where that lies outside memory nothing is
placed (log 20). -/
def State.placeAtFetch (s : State) (w : Word) : State :=
  if s.npc.toNat + 4 ≤ s.cfg.memSize then { s with mem := s.mem.writeBE s.npc.toNat w 4 } else s

end Sys2Proof.Machine
end

