-- ==== Sys2Proof/Machine/Step.lean ====
section
/-! DEFINITION. One step of the core (42_step_and_control_transfer.md rule R160): advance, fetch, decode, execute, next
nPC. -/

namespace Sys2Proof.Machine

/-- One step. -/
def step (s : State) : Host.Outcome State Fault Refusal :=
  match s.beginStep.fetch with
  | .error f => .fault f
  | .ok w =>
    match exec (decodeWord w) s.beginStep with
    | .next t => .next t.endStep
    | .fault f => .fault f
    | .refused r => .refused r

/-- `s` with the instruction whose bits are `w` (those above `nbits` zero) stored where `step` fetches its next
instruction: big-endian at `nPC` (log 20). -/
def State.withFetchWord (s : State) (nbits w : Nat) : State :=
  s.placeAtFetch (BitVec.ofNat 32 (w % 2 ^ nbits))

end Sys2Proof.Machine
end

