-- ==== Sys2Proof/Machine/Engines.lean ====
section
/-! DEFINITION. The iterative multiply and divide engines of 41_alu_muldiv.md rules R145 and R151.

The spec makes the functional definitions normative (rule R140) and gives these engines as the structure that computes
exactly those results. The meanings use the functional definitions; that the engines agree with them is a statement
(log 22). The engines' registers are internal: nothing of them is state. -/

namespace Sys2Proof.Machine

/-- The working registers of the multiply engine: the accumulator over the multiplier register. -/
structure MulRegs where
  /-- `acc`, which ends as the high word. -/
  acc : Word
  /-- `mq`, which ends as the low word. -/
  mq : Word
deriving DecidableEq, Repr

/-- One iteration (rule R145): the 33-bit sum, when the low bit of `mq` is set, then the 65-bit value
`cy ++ acc ++ mq` shifted right by one, its low 64 bits kept. -/
def mulIteration (multiplicand : Word) (r : MulRegs) : MulRegs :=
  let sum : BitVec 33 :=
    if r.mq.getLsbD 0 then r.acc.setWidth 33 + multiplicand.setWidth 33 else r.acc.setWidth 33
  let shifted : BitVec 65 := (sum ++ r.mq) >>> 1
  { acc := shifted.extractLsb' 32 32, mq := shifted.extractLsb' 0 32 }

/-- `k` iterations of the multiply engine. -/
def mulLoop (multiplicand : Word) : Nat → MulRegs → MulRegs
  | 0, r => r
  | k + 1, r => mulLoop multiplicand k (mulIteration multiplicand r)

/-- The unsigned multiply engine: 32 iterations from `acc = 0`, `mq = multiplier` (rule R145). -/
def mulEngine (multiplicand multiplier : Word) : BitVec 64 :=
  let r := mulLoop multiplicand 32 { acc := 0#32, mq := multiplier }
  r.acc ++ r.mq

/-- The signed multiply engine: the magnitudes, and the pair negated where the signs differ (rule R145). -/
def smulEngine (a b : Word) : BitVec 64 :=
  let pair := mulEngine (magnitude a) (magnitude b)
  if isNeg a != isNeg b then neg64 pair else pair

/-- The working registers of the divide engine. -/
structure DivRegs where
  /-- `rem`, the partial remainder, 33 bits in two's complement. -/
  rem : BitVec 33
  /-- `qr`, the dividend that becomes the quotient. -/
  qr : Word
deriving DecidableEq, Repr

/-- One iteration (rule R151): the sign before the 65-bit left shift chooses between adding and subtracting the
divisor, and the new quotient bit is 1 where the new remainder is not negative. -/
def divIteration (divisor : Word) (r : DivRegs) : DivRegs :=
  let shifted : BitVec 65 := (r.rem ++ r.qr) <<< 1
  let rem0 : BitVec 33 := shifted.extractLsb' 32 33
  let rem : BitVec 33 := if r.rem.getLsbD 32 then rem0 + divisor.setWidth 33 else rem0 - divisor.setWidth 33
  { rem := rem, qr := shifted.extractLsb' 1 31 ++ BitVec.ofBool (!rem.getLsbD 32) }

/-- `k` iterations of the divide engine. -/
def divLoop (divisor : Word) : Nat → DivRegs → DivRegs
  | 0, r => r
  | k + 1, r => divLoop divisor k (divIteration divisor r)

/-- The unsigned divide engine: 32 iterations, then the remainder corrected; remainder over quotient (rule R151). -/
def divEngine (dividend divisor : Word) : BitVec 64 :=
  let r := divLoop divisor 32 { rem := 0#33, qr := dividend }
  let rem := if r.rem.getLsbD 32 then r.rem + divisor.setWidth 33 else r.rem
  rem.extractLsb' 0 32 ++ r.qr

/-- The signed divide engine: the magnitudes, and the pair negated where the signs differ (rules R148, R151). -/
def sdivEngine (a b : Word) : BitVec 64 :=
  let pair := divEngine (magnitude a) (magnitude b)
  if isNeg a != isNeg b then neg64 pair else pair

end Sys2Proof.Machine
end

