-- ==== Sys2Proof/Safety.lean ====
section
/-! DEFINITION. What the claims speak of: the words a statement uses for "writes one register and nothing else", the
classes of words of 46_unexecuted_and_illegal.md, who may write which state (10_state.md), and the invariant that
every step keeps. -/

namespace Sys2Proof.Machine

/-! ## What an instruction changes -/

/-- Every byte of memory reads the same in `t` as in `s`. -/
def State.SameMemory (s t : State) : Prop := ∀ a : Nat, t.mem.readByte a = s.mem.readByte a

/-- The cell that `rd` names in the window of `w` holds `v` in `t`, and every other cell is as it was in `s`; `rd` reads
back as `v`, or as 0 when it is `%g0`, whose write is discarded (rules R13, R14). -/
structure RegWritten (s t w : State) (rd : RegNum) (v : Word) : Prop where
  /-- Every physical cell. -/
  cells : ∀ q : PhysReg, t.regs.get q = if w.cellOf rd = some q then v else s.regs.get q
  /-- What the name reads as. -/
  value : t.regs.read (w.cellOf rd) = if rd = 0#5 then 0#32 else v
  /-- A write to `%g0` is discarded. -/
  zero : rd = 0#5 → t.regs = s.regs

/-- Only the four condition codes of `PSR` may differ between `s` and `t`, and in `t` they are `f`. -/
structure FlagsWritten (s t : State) (f : Icc) : Prop where
  /-- The four flags. -/
  flags : t.icc = f
  /-- Every other bit of `PSR`. -/
  others : ∀ k : Nat, k < 20 ∨ 23 < k → t.psr.getLsbD k = s.psr.getLsbD k

/-- `i` completes from `s`, and all it does is write `v` to `rd`. -/
def WritesReg (i : Instr) (s : State) (rd : RegNum) (v : Word) : Prop :=
  ∃ t, exec i s = .next t ∧ RegWritten s t s rd v ∧ t = { s with regs := t.regs } ∧ s.SameMemory t

/-- `i` completes from `s`, and all it does is write `v` to `rd` and the condition codes `f`. -/
def WritesRegFlags (i : Instr) (s : State) (rd : RegNum) (v : Word) (f : Icc) : Prop :=
  ∃ t, exec i s = .next t ∧ RegWritten s t s rd v ∧ FlagsWritten s t f ∧
    t = { s with regs := t.regs, psr := t.psr } ∧ s.SameMemory t

/-- `i` completes from `s`, and all it does is write `v` to `rd` and `y` to `Y`. -/
def WritesRegY (i : Instr) (s : State) (rd : RegNum) (v y : Word) : Prop :=
  ∃ t, exec i s = .next t ∧ RegWritten s t s rd v ∧ t = { s with regs := t.regs, y := y } ∧ s.SameMemory t

/-- `i` completes from `s`, and all it does is write `v` to `rd`, `y` to `Y` and the condition codes `f`. -/
def WritesRegYFlags (i : Instr) (s : State) (rd : RegNum) (v y : Word) (f : Icc) : Prop :=
  ∃ t, exec i s = .next t ∧ RegWritten s t s rd v ∧ FlagsWritten s t f ∧
    t = { s with regs := t.regs, psr := t.psr, y := y } ∧ s.SameMemory t

/-- `i` completes from `s`, and all it does is write the low `n` bytes of `v` big-endian at `ea` (rules R41, R43). -/
def WritesBytes (i : Instr) (s : State) (ea : Word) (n : Nat) (v : Word) : Prop :=
  ∃ t, exec i s = .next t ∧ t = { s with mem := t.mem } ∧
    (∀ k < n, t.mem.readByte (ea.toNat + k) = v.extractLsb' (8 * (n - 1 - k)) 8) ∧
    ∀ a : Nat, a < ea.toNat ∨ ea.toNat + n ≤ a → t.mem.readByte a = s.mem.readByte a

/-- `i` completes from `s` and changes nothing. -/
def NoEffect (i : Instr) (s : State) : Prop := exec i s = .next s

/-- What `i` does from `s` when its one transaction of `n` bytes is at `ea`: the alignment fault, else the bounds fault,
else `effect` (rules R42, R43, R210). -/
def Accesses (i : Instr) (s : State) (ea : Word) (n : Nat) (kind : AccessKind) (effect : Prop) : Prop :=
  if s.cfg.strictAlign = true ∧ 1 < n ∧ ea.toNat % n ≠ 0 then exec i s = .fault (.memBadAlignment s.pc ea n)
  else if s.cfg.memSize < ea.toNat + n then exec i s = .fault (.memOutOfBounds s.pc ea n kind)
  else effect

/-- What a doubleword access `i` to the pair `rd`, `rd + 1` does from `s` at `ea`: the fault of an odd `rd`, else that of
an address not a multiple of 8 under `STRICT_ALIGN`, else the bounds fault of the word at `ea`, else that of the word at
`ea + 4` modulo 2^32, else `effect` (rules R47, R214, R218, R273). -/
def AccessesPair (i : Instr) (s : State) (rd : RegNum) (ea : Word) (kind : AccessKind) (effect : Prop) : Prop :=
  if rd.getLsbD 0 = true then exec i s = .fault (.illegalInstruction s.pc (encode i))
  else if s.cfg.strictAlign = true ∧ ea.toNat % 8 ≠ 0 then exec i s = .fault (.memBadAlignment s.pc ea 8)
  else if s.cfg.memSize < ea.toNat + 4 then exec i s = .fault (.memOutOfBounds s.pc ea 4 kind)
  else if s.cfg.memSize < (ea + 4#32).toNat + 4 then
    exec i s = .fault (.memOutOfBounds s.pc (ea + 4#32) 4 kind)
  else effect

/-- `i` is a `Bicc` of the displacement `disp22` from `s`, taken or not (rule R170). -/
def Branches (i : Instr) (s : State) (a : BitVec 1) (disp22 : BitVec 22) (taken : Bool) : Prop :=
  exec i s = .next
    (if taken = true then
      { s with
        branchPending := true
        executeDelaySlot := true
        branchTarget := BitVec.ofInt 32 (s.pc.toNat + 4 * disp22.toInt) }
    else if a = 1#1 then { s with pc := s.pc + 4#32 }
    else s)

/-- The word with this `op` and `op3` and any operand fields is the instruction that `mk` makes (rules R64, R74, R76). -/
def Format3 (op : BitVec 2) (op3 : BitVec 6) (mk : RegNum → RegNum → Operand2 → Instr) : Prop :=
  ∀ rd rs1 src, decodeWord (encodeFormat3 op op3 rd rs1 src) = mk rd rs1 src

/-- The flags of an addition or a subtraction with the result `res`: `v` and `c` are given (rules R102, R106). -/
def flagsOf (res : Word) (v c : Prop) [Decidable v] [Decidable c] : Icc :=
  ⟨res.getLsbD 31, decide (res = 0#32), decide v, decide c⟩

/-! ## Memory as the rules address it -/

/-- The word whose bytes stand at `a`, `a + 1`, `a + 2`, `a + 3`, the first in the high bits (rule R42). -/
def State.wordAt (s : State) (a : Nat) : Word :=
  s.mem.readByte a ++ s.mem.readByte (a + 1) ++ s.mem.readByte (a + 2) ++ s.mem.readByte (a + 3)

/-- The halfword whose bytes stand at `a`, `a + 1` (rule R42). -/
def State.halfAt (s : State) (a : Nat) : BitVec 16 := s.mem.readByte a ++ s.mem.readByte (a + 1)

/-- The next step of `s` fetches the word `w` (rules R160, R161). -/
def State.fetches (s : State) (w : Word) : Prop :=
  s.npc.toNat + 4 ≤ s.cfg.memSize ∧ s.wordAt s.npc.toNat = w

/-! ## Classes of words -/

/-- A `Bicc` word (rule R70). -/
def IsBicc (w : Word) : Prop := fieldOp w = 0#2 ∧ fieldOp2 w = 2#3

/-- A `CALL` word (rule R72). -/
def IsCall (w : Word) : Prop := fieldOp w = 1#2

/-- A `JMPL` word (rule R74). -/
def IsJmpl (w : Word) : Prop := fieldOp w = 2#2 ∧ fieldOp3 w = 0x38#6

/-- A word of an instruction that can set the branch latches, or annul (00_scope.md rule R9, `DCTI`). -/
def IsTransfer (w : Word) : Prop := IsBicc w ∨ IsCall w ∨ IsJmpl w

/-- The `Bicc` word `w` is taken in `s` (rules R170, R171). -/
def State.taken (s : State) (w : Word) : Prop := branchPred s.icc (fieldCond w) = true

/-- The illegal words, exactly (rule R258). -/
def IsIllegal (w : Word) : Prop :=
  (w &&& 0xC1C00000#32 = 0#32 ∧ w ≠ 0#32) ∨
  w &&& 0xC1C00000#32 ∈ [0x00400000#32, 0x00C00000#32, 0x01400000#32] ∨
  (fieldOp w = 2#2 ∧ fieldOp3 w ∈ [0x09#6, 0x0D#6, 0x19#6, 0x1D#6, 0x2C#6, 0x2D#6, 0x2E#6, 0x2F#6, 0x3E#6, 0x3F#6]) ∨
  (fieldOp w = 2#2 ∧ fieldOp3 w ∈ [0x20#6, 0x21#6, 0x22#6, 0x23#6, 0x24#6]) ∨
  (fieldOp w = 3#2 ∧ fieldOp3 w ∈ [0x08#6, 0x0B#6, 0x0C#6, 0x0E#6, 0x18#6, 0x1B#6, 0x1C#6, 0x1E#6, 0x22#6, 0x28#6,
    0x29#6, 0x2A#6, 0x2B#6, 0x2C#6, 0x2D#6, 0x2E#6, 0x2F#6, 0x32#6, 0x38#6, 0x39#6, 0x3A#6, 0x3B#6, 0x3C#6, 0x3D#6,
    0x3E#6, 0x3F#6]) ∨
  (fieldOp w = 3#2 ∧ fieldOp3 w ∈ [0x0D#6, 0x0F#6, 0x1D#6, 0x1F#6]) ∨
  (fieldOp w = 3#2 ∧ fieldOp3 w ∈ [0x03#6, 0x07#6] ∧ (fieldRd w).getLsbD 0 = true)

/-- The words decoded but not executed (rules R254 to R256, R259). -/
def IsUnimplemented (w : Word) : Prop :=
  w &&& 0xC1F80000#32 ∈ [0x81D00000#32, 0x81C80000#32, 0x81D80000#32, 0xC0800000#32, 0xC0880000#32, 0xC0900000#32,
    0xC0980000#32, 0xC0A00000#32, 0xC0A80000#32, 0xC0B00000#32, 0xC0B80000#32, 0xC0C80000#32, 0xC0D00000#32]

/-- The words of the FPU and the coprocessor, which are no-ops (rules R251 to R253). -/
def IsNoOp (w : Word) : Prop :=
  w &&& 0xC1F80000#32 ∈ [0x81A00000#32, 0x81A80000#32, 0x81B00000#32, 0x81B80000#32, 0xC1000000#32, 0xC1080000#32,
    0xC1180000#32, 0xC1200000#32, 0xC1280000#32, 0xC1300000#32, 0xC1380000#32, 0xC1800000#32, 0xC1880000#32,
    0xC1980000#32, 0xC1A00000#32, 0xC1A80000#32, 0xC1B00000#32, 0xC1B80000#32] ∨
  w &&& 0xC1C00000#32 ∈ [0x01800000#32, 0x01C00000#32]

/-! ## Who writes what -/

/-- The instructions that rule R24 lets write the condition codes: the fourteen `cc` forms, and `WRPSR`. -/
def WritesFlags (i : Instr) : Prop :=
  ∃ rd rs1 src, i ∈ [.addcc rd rs1 src, .addxcc rd rs1 src, .subcc rd rs1 src, .subxcc rd rs1 src,
    .andcc rd rs1 src, .andncc rd rs1 src, .orcc rd rs1 src, .orncc rd rs1 src, .xorcc rd rs1 src, .xnorcc rd rs1 src,
    .umulcc rd rs1 src, .smulcc rd rs1 src, .udivcc rd rs1 src, .sdivcc rd rs1 src, .wrpsr rd rs1 src]

/-- The instructions that rule R46 lets write memory. -/
def WritesMemory (i : Instr) : Prop :=
  ∃ rd rs1 src, i ∈ [.st rd rs1 src, .stb rd rs1 src, .sth rd rs1 src, .std rd rs1 src]

/-- The instructions that rule R27 lets write `Y`. -/
def WritesY (i : Instr) : Prop :=
  ∃ rd rs1 src, i ∈ [.umul rd rs1 src, .umulcc rd rs1 src, .smul rd rs1 src, .smulcc rd rs1 src,
    .udiv rd rs1 src, .udivcc rd rs1 src, .sdiv rd rs1 src, .sdivcc rd rs1 src, .wry rd rs1 src]

/-- The instructions that rotate the window (rule R241). -/
def Rotates (i : Instr) : Prop := ∃ rd rs1 src, i ∈ [.save rd rs1 src, .restore rd rs1 src]

/-- The instructions that write no general register (rule R17): `Bicc`, the stores, the writes of special registers, the
no-ops and the zero word. -/
def WritesNoReg (i : Instr) : Prop :=
  i = .halt0 ∨ IsBicc (encode i) ∨ WritesMemory i ∨ IsNoOp (encode i) ∨
    ∃ rd rs1 src, i ∈ [.wry rd rs1 src, .wrpsr rd rs1 src, .wrwim rd rs1 src, .wrtbr rd rs1 src]

/-! ## The invariant -/

/-- A cell of the register file of a machine of `w` windows (rule R11). -/
def PhysReg.exists (w : Nat) : PhysReg → Prop
  | .g i => i ≠ 0
  | .o k _ => k.val < w
  | .l k _ => k.val < w

/-- What holds of the machine between steps, whatever it has run. -/
structure State.Inv (s : State) : Prop where
  /-- The parameters are those rule R5 allows. -/
  config : s.cfg.legal = true
  /-- Memory has its canonical form. -/
  memory : s.mem.wf = true
  /-- No byte outside `0 .. N-1` is listed (rule R40). -/
  bounds : s.mem.within s.cfg.memSize = true
  /-- `nPC` is a multiple of 4 (rule R22). -/
  aligned : s.npc.toNat % 4 = 0
  /-- The only reachable latch combinations are `(false, false)` and `(true, false)` (rule R28). -/
  latch : s.executeDelaySlot = false
  /-- The target of a pending transfer is a multiple of 4 (rule R22). -/
  target : s.branchPending = true → s.branchTarget.toNat % 4 = 0
  /-- The cells that a machine of `W` windows does not have are never written (rule R11). -/
  phantom : ∀ q : PhysReg, ¬ q.exists s.cfg.windows → s.regs.get q = 0#32

end Sys2Proof.Machine
end

