-- ==== Sys2Proof/Certificates/Slice0/Obligations.lean ====
section
/-! DEFINITION. The statements for the provers. Each docstring names the rule of spec/ that its statement formalises. -/

namespace Sys2Proof.Claims

open Sys2Proof.Machine

/-- The pair that `SDIV` leaves in `Y` (high word) and `rd` (low word), computed as rule R148 writes it. -/
def signedPair (a b : Word) : BitVec 64 :=
  let ma := if a.getLsbD 31 = true then -a else a
  let mb := if b.getLsbD 31 = true then -b else b
  let pair := BitVec.ofNat 32 (ma.toNat % mb.toNat) ++ BitVec.ofNat 32 (ma.toNat / mb.toNat)
  if a.getLsbD 31 ≠ b.getLsbD 31 then -pair else pair

/-- `k` successive pure rotations `save %g0, %g0, %g0` (10_state.md rule R15). -/
def saveTimes : Nat → State → Outcome
  | 0, s => .next s
  | k + 1, s =>
    match exec (.save 0#5 0#5 (.reg 0#8 0#5)) s with
    | .next t => saveTimes k t
    | o => o

/-- The target of a taken `Bicc` or a `CALL` word at `pc` (rules R170, R172). -/
def targetOf (w pc : Word) : Word :=
  if fieldOp w = 1#2 then BitVec.ofInt 32 (pc.toNat + 4 * (fieldDisp30 w).toInt)
  else BitVec.ofInt 32 (pc.toNat + 4 * (fieldImm22 w).toInt)

/-- The target of a `JMPL` word in `s` (rule R173). -/
def jumpTarget (s : State) (w : Word) : Word := (s.readReg (fieldRs1 w) + s.operand2 (fieldSrc w)) <<< 2

/-- The control state between steps, as rule R165 writes it: `PC`, `nPC`, `branch_pending`, `execute_delay_slot`. -/
def control (s : State) : Word × Word × Bool × Bool := (s.pc, s.npc, s.branchPending, s.executeDelaySlot)

/-- The step after `s` runs an instruction that is no control transfer, completes, does not halt, and leaves `t`. -/
def PlainStep (s t : State) : Prop :=
  step s = .next t ∧ t.live = true ∧ ∀ w, s.fetches w → ¬ IsTransfer w

end Sys2Proof.Claims

open Sys2Proof Sys2Proof.Machine Sys2Proof.Claims

/-! ## Encoding -/

/-- Decoding the word of a well-formed instruction gives the instruction back, every operand at every value. -/
def Obligations.DecodeAfterEncode : Prop :=
  ∀ i : Instr, i.wellFormed = true → decodeWord (encode i) = i

/-- The decoder is total, drops no bit of any word and gives only well-formed instructions (rules R66, R80). -/
def Obligations.EncodeAfterDecode : Prop :=
  ∀ w : Word, (decodeWord w).wellFormed = true ∧ encode (decodeWord w) = w

/-- Words written out in spec/ decode to the instructions spec/ names; the zero word is the only `HALT0`, and
`0x01000000` the only `NOP` (rules R81, R82, R88). -/
def Obligations.SpecWordsDecode : Prop :=
  decodeWord 0x81C7E008#32 = .jmpl 0#5 31#5 (.imm 8#13) ∧
  decodeWord 0xA4040011#32 = .add 18#5 16#5 (.reg 0#8 17#5) ∧
  decodeWord 0x86D04002#32 = .umulcc 3#5 1#5 (.reg 0#8 2#5) ∧
  decodeWord 0x87286004#32 = .sll 3#5 1#5 (.imm 4#13) ∧
  decodeWord 0x32BFFFFD#32 = .bne 1#1 0x3FFFFD#22 ∧
  decodeWord 0x40000004#32 = .call 4#30 ∧
  decodeWord 0x213FFFFF#32 = .sethi 16#5 0x3FFFFF#22 ∧
  decodeWord 0x81886080#32 = .wrpsr 0#5 1#5 (.imm 0x80#13) ∧
  decodeWord 0xC8007FFC#32 = .ld 4#5 1#5 (.imm 0x1FFC#13) ∧
  decodeWord 0x9DE3BFA0#32 = .save 14#5 14#5 (.imm 0x1FA0#13) ∧
  decodeWord 0xC5006000#32 = .ldf 2#5 1#5 (.imm 0#13) ∧
  decodeWord 0x91D02000#32 = .ticc 0#1 8#4 0#5 (.imm 0#13) ∧
  decodeWord 0xC4804160#32 = .lda 2#5 1#5 (.reg 0x0B#8 0#5) ∧
  (∀ w, decodeWord w = .halt0 ↔ w = 0x00000000#32) ∧
  (∀ w, decodeWord w = .nop ↔ w = 0x01000000#32)

/-! ## Reset, registers, the memory port -/

/-- `init` gives the program counters, `PSR`, `WIM`, `TBR`, the latches and the indicators their reset values and
writes nothing else; the reset state has those values, with the parameter defaults (rules R35, R290). The
values of PSR, WIM and TBR, that the rest is not written, branch_target = 0, and WOVF = WUNF = 0 are the spec's own
decisions D4, D5, D6, D7 and D25; that State.reset is the machine with W = 4, STRICT_ALIGN and RD_PRIV_CHECK false and
the default reset values is the model's choice of log 3. -/
def Obligations.ResetValues : Prop :=
  (∀ s : State,
    (s.init).pc = 0xFFFFFFFF#32 ∧ (s.init).npc = 0#32 ∧
    (s.init).psr = s.cfg.psrReset ∧ (s.init).wim = s.cfg.wimReset ∧ (s.init).tbr = s.cfg.tbrReset ∧
    (s.init).branchPending = false ∧ (s.init).executeDelaySlot = false ∧ (s.init).branchTarget = 0#32 ∧
    (s.init).wovf = false ∧ (s.init).wunf = false ∧
    (s.init).regs = s.regs ∧ (s.init).y = s.y ∧ (s.init).fsr = s.fsr ∧ (s.init).mem = s.mem ∧
    s.SameMemory s.init ∧ (s.init).cfg = s.cfg) ∧
  State.reset.pc = 0xFFFFFFFF#32 ∧ State.reset.npc = 0#32 ∧ State.reset.psr = 0x00000080#32 ∧ State.reset.wim = 0#32 ∧
  State.reset.tbr = 0#32 ∧ State.reset.cfg.windows = 4 ∧ State.reset.cfg.strictAlign = false ∧
  State.reset.cfg.rdPrivCheck = false

/-- The read of a register number in the current window, by the four groups of rule R12, and `%g0` (rule R14). That
CWP is taken modulo W is the spec's own decision D22. -/
def Obligations.RegisterMap : Prop :=
  ∀ (s : State) (i : Fin 8) (w : Fin 32),
    s.readReg 0#5 = 0#32 ∧
    (i ≠ 0 → s.readReg (BitVec.ofNat 5 i) = s.regs.globals[i]) ∧
    (w.val = (s.psr.extractLsb' 0 5).toNat % s.cfg.windows →
      s.readReg (BitVec.ofNat 5 (8 + i)) = s.regs.outs[w][i] ∧
      s.readReg (BitVec.ofNat 5 (16 + i)) = s.regs.locals[w][i]) ∧
    (w.val = ((s.psr.extractLsb' 0 5).toNat % s.cfg.windows + 1) % s.cfg.windows →
      s.readReg (BitVec.ofNat 5 (24 + i)) = s.regs.outs[w][i])

/-- A register write stores into the one cell its name selects and into no other; to `%g0` it stores nothing; an input
register is the output register of the next window (rule R13). -/
def Obligations.RegisterWrite : Prop :=
  ∀ (s : State) (n : RegNum) (v : Word),
    s.writeReg n v = { s with regs := (s.writeReg n v).regs } ∧
    (n = 0#5 → s.writeReg n v = s) ∧
    (n ≠ 0#5 → (s.writeReg n v).readReg n = v ∧
      ∃ p, s.cellOf n = some p ∧ (s.writeReg n v).regs.get p = v ∧
        ∀ q, q ≠ p → (s.writeReg n v).regs.get q = s.regs.get q) ∧
    (24 ≤ n.toNat → ∀ (w : Fin 32) (i : Fin 8), w.val = (s.cwp + 1) % s.cfg.windows → n.toNat = 24 + i →
      (s.writeReg n v).regs.outs[w][i] = v)

/-- The second operand: the register `rs2` when bit 13 is 0, whatever `asi` holds, else `simm13` sign-extended (rule
R68). -/
def Obligations.SecondOperand : Prop :=
  (∀ w : Word, w.getLsbD 13 = false → fieldSrc w = .reg (w.extractLsb' 5 8) (w.extractLsb' 0 5)) ∧
  (∀ w : Word, w.getLsbD 13 = true → fieldSrc w = .imm (w.extractLsb' 0 13)) ∧
  ∀ s : State,
    (∀ (asi : BitVec 8) (rs2 : RegNum), s.operand2 (.reg asi rs2) = s.readReg rs2) ∧
    ∀ simm13 : BitVec 13, (s.operand2 (.imm simm13)).toInt = simm13.toInt

/-- `MemRead` (rule R42): the two faults in their order, then the bytes, the first in the high bits. -/
def Obligations.MemoryReadPort : Prop :=
  ∀ (s : State) (addr : Word) (n : Nat), n = 1 ∨ n = 2 ∨ n = 4 →
    s.memRead addr n =
      if s.cfg.strictAlign = true ∧ 1 < n ∧ addr.toNat % n ≠ 0 then .error (.memBadAlignment s.pc addr n)
      else if s.cfg.memSize < addr.toNat + n then .error (.memOutOfBounds s.pc addr n .read)
      else if n = 1 then .ok ((s.mem.readByte addr.toNat).setWidth 32)
      else if n = 2 then .ok ((s.halfAt addr.toNat).setWidth 32)
      else .ok (s.wordAt addr.toNat)

/-- `MemWrite` (rule R43): the two faults in their order, then the low `8n` bits of the value, byte by byte; nothing
outside them changes. -/
def Obligations.MemoryWritePort : Prop :=
  ∀ (s : State) (addr : Word) (n : Nat) (v : Word), n = 1 ∨ n = 2 ∨ n = 4 →
    if s.cfg.strictAlign = true ∧ 1 < n ∧ addr.toNat % n ≠ 0 then
      s.memWrite addr n v = .error (.memBadAlignment s.pc addr n)
    else if s.cfg.memSize < addr.toNat + n then s.memWrite addr n v = .error (.memOutOfBounds s.pc addr n .write)
    else ∃ t, s.memWrite addr n v = .ok t ∧ t = { s with mem := t.mem } ∧
      (∀ k < n, t.mem.readByte (addr.toNat + k) = v.extractLsb' (8 * (n - 1 - k)) 8) ∧
      ∀ a, a < addr.toNat ∨ addr.toNat + n ≤ a → t.mem.readByte a = s.mem.readByte a

/-! ## Add, subtract, logic, shift -/

/-- `ADD`, `ADDX`, `SUB`, `SUBX` (rules R101, R103, R105, R107). -/
def Obligations.AddSubResults : Prop :=
  Format3 2#2 0x00#6 .add ∧ Format3 2#2 0x08#6 .addx ∧ Format3 2#2 0x04#6 .sub ∧ Format3 2#2 0x0C#6 .subx ∧
  ∀ (rd rs1 : RegNum) (src : Operand2) (s : State),
    let a := s.readReg rs1
    let b := s.operand2 src
    let c := if s.psr.getLsbD 20 = true then 1#32 else 0#32
    WritesReg (.add rd rs1 src) s rd (a + b) ∧
    WritesReg (.addx rd rs1 src) s rd (a + b + c) ∧
    WritesReg (.sub rd rs1 src) s rd (a - b) ∧
    WritesReg (.subx rd rs1 src) s rd (a - b - c)

/-- `ADDcc`, `ADDXcc`, `SUBcc`, `SUBXcc`: the result and the four condition codes (rules R102, R104, R106, R108). -/
def Obligations.AddSubFlags : Prop :=
  Format3 2#2 0x10#6 .addcc ∧ Format3 2#2 0x18#6 .addxcc ∧ Format3 2#2 0x14#6 .subcc ∧ Format3 2#2 0x1C#6 .subxcc ∧
  ∀ (rd rs1 : RegNum) (src : Operand2) (s : State),
    let a := s.readReg rs1
    let b := s.operand2 src
    let c := if s.psr.getLsbD 20 = true then 1#32 else 0#32
    let addV := fun res : Word => a.getLsbD 31 = b.getLsbD 31 ∧ res.getLsbD 31 ≠ a.getLsbD 31
    let subV := fun res : Word => a.getLsbD 31 ≠ b.getLsbD 31 ∧ res.getLsbD 31 ≠ a.getLsbD 31
    WritesRegFlags (.addcc rd rs1 src) s rd (a + b) (flagsOf (a + b) (addV (a + b)) (2 ^ 32 ≤ a.toNat + b.toNat)) ∧
    WritesRegFlags (.addxcc rd rs1 src) s rd (a + b + c)
      (flagsOf (a + b + c) (addV (a + b + c)) (2 ^ 32 ≤ a.toNat + b.toNat + c.toNat)) ∧
    WritesRegFlags (.subcc rd rs1 src) s rd (a - b) (flagsOf (a - b) (subV (a - b)) (a.toNat < b.toNat)) ∧
    WritesRegFlags (.subxcc rd rs1 src) s rd (a - b - c)
      (flagsOf (a - b - c) (subV (a - b - c)) (a.toNat < b.toNat + c.toNat))

/-- `AND`, `ANDN`, `OR`, `ORN`, `XOR`, `XNOR` (rules R111, R113, R115, R117, R119, R121). -/
def Obligations.LogicResults : Prop :=
  Format3 2#2 0x01#6 .and ∧ Format3 2#2 0x05#6 .andn ∧ Format3 2#2 0x02#6 .or ∧ Format3 2#2 0x06#6 .orn ∧
  Format3 2#2 0x03#6 .xor ∧ Format3 2#2 0x07#6 .xnor ∧
  ∀ (rd rs1 : RegNum) (src : Operand2) (s : State),
    let a := s.readReg rs1
    let b := s.operand2 src
    WritesReg (.and rd rs1 src) s rd (a &&& b) ∧
    WritesReg (.andn rd rs1 src) s rd (a &&& ~~~b) ∧
    WritesReg (.or rd rs1 src) s rd (a ||| b) ∧
    WritesReg (.orn rd rs1 src) s rd (a ||| ~~~b) ∧
    WritesReg (.xor rd rs1 src) s rd (a ^^^ b) ∧
    WritesReg (.xnor rd rs1 src) s rd (~~~(a ^^^ b))

/-- `ANDcc`, `ANDNcc`, `ORcc`, `ORNcc`, `XORcc`, `XNORcc`: `N` and `Z` from the result, `V` and `C` cleared (rules R110,
R112, R114, R116, R118, R120, R122). -/
def Obligations.LogicFlags : Prop :=
  Format3 2#2 0x11#6 .andcc ∧ Format3 2#2 0x15#6 .andncc ∧ Format3 2#2 0x12#6 .orcc ∧ Format3 2#2 0x16#6 .orncc ∧
  Format3 2#2 0x13#6 .xorcc ∧ Format3 2#2 0x17#6 .xnorcc ∧
  ∀ (rd rs1 : RegNum) (src : Operand2) (s : State),
    let a := s.readReg rs1
    let b := s.operand2 src
    WritesRegFlags (.andcc rd rs1 src) s rd (a &&& b) (flagsOf (a &&& b) False False) ∧
    WritesRegFlags (.andncc rd rs1 src) s rd (a &&& ~~~b) (flagsOf (a &&& ~~~b) False False) ∧
    WritesRegFlags (.orcc rd rs1 src) s rd (a ||| b) (flagsOf (a ||| b) False False) ∧
    WritesRegFlags (.orncc rd rs1 src) s rd (a ||| ~~~b) (flagsOf (a ||| ~~~b) False False) ∧
    WritesRegFlags (.xorcc rd rs1 src) s rd (a ^^^ b) (flagsOf (a ^^^ b) False False) ∧
    WritesRegFlags (.xnorcc rd rs1 src) s rd (a ^^^ ~~~b) (flagsOf (a ^^^ ~~~b) False False)

/-- `SLL`, `SRL`, `SRA` by the low five bits of the second operand; `SRA` divides the signed value by `2^k`, rounding
toward minus infinity (rules R130 to R133). That the count is the low five bits of operand2 also for an immediate,
whose other bits are ignored, is marked by the spec in R130 as derived and as its own decision D32. -/
def Obligations.ShiftResults : Prop :=
  Format3 2#2 0x25#6 .sll ∧ Format3 2#2 0x26#6 .srl ∧ Format3 2#2 0x27#6 .sra ∧
  ∀ (rd rs1 : RegNum) (src : Operand2) (s : State),
    let a := s.readReg rs1
    let k := (s.operand2 src).toNat % 32
    WritesReg (.sll rd rs1 src) s rd (BitVec.ofNat 32 (a.toNat * 2 ^ k)) ∧
    WritesReg (.srl rd rs1 src) s rd (BitVec.ofNat 32 (a.toNat / 2 ^ k)) ∧
    WritesReg (.sra rd rs1 src) s rd (BitVec.ofInt 32 (a.toInt / 2 ^ k))

/-! ## Multiply and divide -/

/-- `UMUL` and `SMUL`: the low word of the exact product to `rd`, the high word to `Y` (rules R141, R143). -/
def Obligations.MultiplyResults : Prop :=
  Format3 2#2 0x0A#6 .umul ∧ Format3 2#2 0x0B#6 .smul ∧
  ∀ (rd rs1 : RegNum) (src : Operand2) (s : State),
    let a := s.readReg rs1
    let b := s.operand2 src
    WritesRegY (.umul rd rs1 src) s rd (BitVec.ofNat 32 (a.toNat * b.toNat))
      (BitVec.ofNat 32 (a.toNat * b.toNat / 2 ^ 32)) ∧
    WritesRegY (.smul rd rs1 src) s rd (BitVec.ofInt 32 (a.toInt * b.toInt))
      (BitVec.ofInt 32 (a.toInt * b.toInt / 2 ^ 32))

/-- `UMULcc` and `SMULcc`: the words of `UMUL` and `SMUL`, and the condition codes of the whole product (rules R142,
R144). -/
def Obligations.MultiplyFlags : Prop :=
  Format3 2#2 0x1A#6 .umulcc ∧ Format3 2#2 0x1B#6 .smulcc ∧
  ∀ (rd rs1 : RegNum) (src : Operand2) (s : State),
    let a := s.readReg rs1
    let b := s.operand2 src
    let ulo := BitVec.ofNat 32 (a.toNat * b.toNat)
    let uhi := BitVec.ofNat 32 (a.toNat * b.toNat / 2 ^ 32)
    let slo := BitVec.ofInt 32 (a.toInt * b.toInt)
    let shi := BitVec.ofInt 32 (a.toInt * b.toInt / 2 ^ 32)
    WritesRegYFlags (.umulcc rd rs1 src) s rd ulo uhi
      ⟨false, decide (ulo = 0#32 ∧ uhi = 0#32), decide (uhi ≠ 0#32), false⟩ ∧
    WritesRegYFlags (.smulcc rd rs1 src) s rd slo shi
      ⟨slo.getLsbD 31, decide (slo = 0#32 ∧ shi = 0#32), decide (shi ≠ 0#32), false⟩

/-- `UDIV` and `SDIV`: a zero divisor faults; else the quotient word to `rd` and the remainder word to `Y` (rules
R146, R148, R150). `Y` is not read: it is free in `s` and the results do not mention it. That a zero divisor faults is
the spec's own decision D13; which pair SDIV negates is its decision D14 (log 18). -/
def Obligations.DivideResults : Prop :=
  Format3 2#2 0x0E#6 .udiv ∧ Format3 2#2 0x0F#6 .sdiv ∧
  ∀ (rd rs1 : RegNum) (src : Operand2) (s : State),
    let a := s.readReg rs1
    let b := s.operand2 src
    if b = 0#32 then
      exec (.udiv rd rs1 src) s = .fault (.divisionByZero s.pc) ∧
      exec (.sdiv rd rs1 src) s = .fault (.divisionByZero s.pc)
    else
      WritesRegY (.udiv rd rs1 src) s rd (BitVec.ofNat 32 (a.toNat / b.toNat)) (BitVec.ofNat 32 (a.toNat % b.toNat)) ∧
      WritesRegY (.sdiv rd rs1 src) s rd ((signedPair a b).extractLsb' 0 32) ((signedPair a b).extractLsb' 32 32)

/-- `UDIVcc` and `SDIVcc`: as `UDIV` and `SDIV`, and the four condition codes are written with values the statement
leaves open; the model's own counter of free values may move (rules R147, R149; log 10). That the cc forms exist with
open flags is the spec's own decision D15; see also D13 and D14. -/
def Obligations.DivideFlagsOpen : Prop :=
  Format3 2#2 0x1E#6 .udivcc ∧ Format3 2#2 0x1F#6 .sdivcc ∧
  ∀ (rd rs1 : RegNum) (src : Operand2) (s : State),
    let a := s.readReg rs1
    let b := s.operand2 src
    let divides := fun (i : Instr) (q m : Word) =>
      ∃ t, exec i s = .next t ∧ RegWritten s t s rd q ∧ (∃ f, FlagsWritten s t f) ∧
        t = { s with regs := t.regs, psr := t.psr, y := m, freeCount := t.freeCount } ∧ s.SameMemory t
    if b = 0#32 then
      exec (.udivcc rd rs1 src) s = .fault (.divisionByZero s.pc) ∧
      exec (.sdivcc rd rs1 src) s = .fault (.divisionByZero s.pc)
    else
      divides (.udivcc rd rs1 src) (BitVec.ofNat 32 (a.toNat / b.toNat)) (BitVec.ofNat 32 (a.toNat % b.toNat)) ∧
      divides (.sdivcc rd rs1 src) ((signedPair a b).extractLsb' 0 32) ((signedPair a b).extractLsb' 32 32)

/-! ## SETHI and the special registers -/

/-- Every word of the `SETHI` encoding, `NOP` among them, writes `imm22` over ten zero bits; to `%g0`, where `NOP` writes,
it changes nothing (rules R190, R191). -/
def Obligations.SethiAndNop : Prop :=
  (∀ (rd : RegNum) (imm22 : BitVec 22) (s : State),
    WritesReg (decodeWord (encodeFormat2 4#3 rd imm22)) s rd (imm22.setWidth 32 <<< 10) ∧
    WritesReg (.sethi rd imm22) s rd (imm22.setWidth 32 <<< 10) ∧
    NoEffect (decodeWord (encodeFormat2 4#3 0#5 imm22)) s ∧ NoEffect (.sethi 0#5 imm22) s) ∧
  ∀ s : State, NoEffect (decodeWord 0x01000000#32) s ∧ NoEffect .nop s

/-- `RDY`, `RDPSR`, `RDWIM`, `RDTBR`: the whole special register to `rd`, unless `RD_PRIV_CHECK` holds in user mode,
when nothing happens (rules R194 to R197). That a gated read in user mode does nothing and raises no fault is the
spec's own decision D21; that rs1 and operand2 are ignored is its decision D30. -/
def Obligations.SpecialReads : Prop :=
  Format3 2#2 0x28#6 .rdy ∧ Format3 2#2 0x29#6 .rdpsr ∧ Format3 2#2 0x2A#6 .rdwim ∧ Format3 2#2 0x2B#6 .rdtbr ∧
  ∀ (rd rs1 : RegNum) (src : Operand2) (s : State),
    if s.cfg.rdPrivCheck = false ∨ s.psr.getLsbD 7 = true then
      WritesReg (.rdy rd rs1 src) s rd s.y ∧ WritesReg (.rdpsr rd rs1 src) s rd s.psr ∧
      WritesReg (.rdwim rd rs1 src) s rd s.wim ∧ WritesReg (.rdtbr rd rs1 src) s rd s.tbr
    else
      NoEffect (.rdy rd rs1 src) s ∧ NoEffect (.rdpsr rd rs1 src) s ∧
      NoEffect (.rdwim rd rs1 src) s ∧ NoEffect (.rdtbr rd rs1 src) s

/-- `WRY`, `WRPSR`, `WRWIM`, `WRTBR`: all 32 bits become `r[rs1] xor operand2` in supervisor mode; in user mode
nothing happens (rules R198 to R201). That user mode makes a write do nothing is the spec's own decision D21; that
WRPSR writes all 32 bits is its decision D22; that rd is ignored is its decision D30. -/
def Obligations.SpecialWrites : Prop :=
  Format3 2#2 0x30#6 .wry ∧ Format3 2#2 0x31#6 .wrpsr ∧ Format3 2#2 0x32#6 .wrwim ∧ Format3 2#2 0x33#6 .wrtbr ∧
  ∀ (rd rs1 : RegNum) (src : Operand2) (s : State),
    let v := s.readReg rs1 ^^^ s.operand2 src
    if s.psr.getLsbD 7 = true then
      exec (.wry rd rs1 src) s = .next { s with y := v } ∧ exec (.wrpsr rd rs1 src) s = .next { s with psr := v } ∧
      exec (.wrwim rd rs1 src) s = .next { s with wim := v } ∧ exec (.wrtbr rd rs1 src) s = .next { s with tbr := v }
    else
      NoEffect (.wry rd rs1 src) s ∧ NoEffect (.wrpsr rd rs1 src) s ∧
      NoEffect (.wrwim rd rs1 src) s ∧ NoEffect (.wrtbr rd rs1 src) s

/-! ## Control transfer -/

/-- The eight branches whose `cond` has bit 3 clear (rules R170, R171, R174 to R181). That a branch not taken with a =
0 does nothing is the spec's own decision D17 (in R170); what BN does with a = 0 and with a = 1 is its decision D18.
-/
def Obligations.BranchesOnCondition : Prop :=
  ∀ (a : BitVec 1) (disp22 : BitVec 22) (s : State),
    let n := s.psr.getLsbD 23
    let z := s.psr.getLsbD 22
    let v := s.psr.getLsbD 21
    let c := s.psr.getLsbD 20
    (decodeWord (encodeBranch 2#3 a 0#4 disp22) = .bn a disp22 ∧ Branches (.bn a disp22) s a disp22 false) ∧
    (decodeWord (encodeBranch 2#3 a 1#4 disp22) = .be a disp22 ∧ Branches (.be a disp22) s a disp22 z) ∧
    (decodeWord (encodeBranch 2#3 a 2#4 disp22) = .ble a disp22 ∧
      Branches (.ble a disp22) s a disp22 (z || (n ^^ v))) ∧
    (decodeWord (encodeBranch 2#3 a 3#4 disp22) = .bl a disp22 ∧ Branches (.bl a disp22) s a disp22 (n ^^ v)) ∧
    (decodeWord (encodeBranch 2#3 a 4#4 disp22) = .bleu a disp22 ∧ Branches (.bleu a disp22) s a disp22 (c || z)) ∧
    (decodeWord (encodeBranch 2#3 a 5#4 disp22) = .bcs a disp22 ∧ Branches (.bcs a disp22) s a disp22 c) ∧
    (decodeWord (encodeBranch 2#3 a 6#4 disp22) = .bneg a disp22 ∧ Branches (.bneg a disp22) s a disp22 n) ∧
    (decodeWord (encodeBranch 2#3 a 7#4 disp22) = .bvs a disp22 ∧ Branches (.bvs a disp22) s a disp22 v)

/-- The eight branches whose `cond` has bit 3 set, which inverts the predicate (rules R170, R171, R182 to R189). That
a branch not taken with a = 0 does nothing is the spec's own decision D17 (in R170). -/
def Obligations.BranchesOnInverse : Prop :=
  ∀ (a : BitVec 1) (disp22 : BitVec 22) (s : State),
    let n := s.psr.getLsbD 23
    let z := s.psr.getLsbD 22
    let v := s.psr.getLsbD 21
    let c := s.psr.getLsbD 20
    (decodeWord (encodeBranch 2#3 a 8#4 disp22) = .ba a disp22 ∧ Branches (.ba a disp22) s a disp22 true) ∧
    (decodeWord (encodeBranch 2#3 a 9#4 disp22) = .bne a disp22 ∧ Branches (.bne a disp22) s a disp22 (!z)) ∧
    (decodeWord (encodeBranch 2#3 a 10#4 disp22) = .bg a disp22 ∧
      Branches (.bg a disp22) s a disp22 (!(z || (n ^^ v)))) ∧
    (decodeWord (encodeBranch 2#3 a 11#4 disp22) = .bge a disp22 ∧ Branches (.bge a disp22) s a disp22 (!(n ^^ v))) ∧
    (decodeWord (encodeBranch 2#3 a 12#4 disp22) = .bgu a disp22 ∧ Branches (.bgu a disp22) s a disp22 (!(c || z))) ∧
    (decodeWord (encodeBranch 2#3 a 13#4 disp22) = .bcc a disp22 ∧ Branches (.bcc a disp22) s a disp22 (!c)) ∧
    (decodeWord (encodeBranch 2#3 a 14#4 disp22) = .bpos a disp22 ∧ Branches (.bpos a disp22) s a disp22 (!n)) ∧
    (decodeWord (encodeBranch 2#3 a 15#4 disp22) = .bvc a disp22 ∧ Branches (.bvc a disp22) s a disp22 (!v))

/-- `CALL`: `%o7` gets the word index of the call; the latches are set with a delay slot (rule R172). That the link
register is r[15] of the window current at the CALL is the spec's own decision D38. -/
def Obligations.CallLinksAndBranches : Prop :=
  ∀ (disp30 : BitVec 30) (s : State),
    decodeWord (1#2 ++ disp30) = .call disp30 ∧
    ∃ t, exec (.call disp30) s = .next t ∧ RegWritten s t s 15#5 (s.pc >>> 2) ∧ s.SameMemory t ∧
      t = { s with
        regs := t.regs
        branchPending := true
        executeDelaySlot := true
        branchTarget := BitVec.ofInt 32 (s.pc.toNat + 4 * disp30.toInt) }

/-- `JMPL`: the operand sum, read before `rd` is written, is the word index of the target; no delay slot (rule R173).
That the target is computed before rd is written is the spec's own decision D37. -/
def Obligations.JumpLinksWithoutDelay : Prop :=
  Format3 2#2 0x38#6 .jmpl ∧
  ∀ (rd rs1 : RegNum) (src : Operand2) (s : State),
    ∃ t, exec (.jmpl rd rs1 src) s = .next t ∧ RegWritten s t s rd (s.pc >>> 2) ∧ s.SameMemory t ∧
      t = { s with
        regs := t.regs
        branchPending := true
        executeDelaySlot := false
        branchTarget := (s.readReg rs1 + s.operand2 src) <<< 2 }

/-- The zero word: `PC <- nPC`, `live = false`, and nothing else, `nPC` and the latches included (rule R163). That the
zero word halts is the spec's own decision D8; that this is a next state is log 9. -/
def Obligations.ZeroWordHalts : Prop :=
  (∀ s : State, exec .halt0 s = .next { s with live := false }) ∧
  ∀ s : State, s.fetches 0#32 → step s = .next { s with pc := s.npc, live := false }

/-! ## Loads and stores -/

/-- `LD`, `LDUB`, `LDUH`, `LDSB`, `LDSH` (rules R211, R212, R213, R219, R220), with their faults (rules R42, R210). -/
def Obligations.LoadEffects : Prop :=
  Format3 3#2 0x00#6 .ld ∧ Format3 3#2 0x01#6 .ldub ∧ Format3 3#2 0x02#6 .lduh ∧ Format3 3#2 0x09#6 .ldsb ∧
  Format3 3#2 0x0A#6 .ldsh ∧
  ∀ (rd rs1 : RegNum) (src : Operand2) (s : State),
    let ea := s.effAddr rs1 src
    ea = s.readReg rs1 + s.operand2 src ∧
    Accesses (.ld rd rs1 src) s ea 4 .read (WritesReg (.ld rd rs1 src) s rd (s.wordAt ea.toNat)) ∧
    Accesses (.ldub rd rs1 src) s ea 1 .read
      (WritesReg (.ldub rd rs1 src) s rd ((s.mem.readByte ea.toNat).setWidth 32)) ∧
    Accesses (.lduh rd rs1 src) s ea 2 .read (WritesReg (.lduh rd rs1 src) s rd ((s.halfAt ea.toNat).setWidth 32)) ∧
    Accesses (.ldsb rd rs1 src) s ea 1 .read
      (WritesReg (.ldsb rd rs1 src) s rd ((s.mem.readByte ea.toNat).signExtend 32)) ∧
    Accesses (.ldsh rd rs1 src) s ea 2 .read (WritesReg (.ldsh rd rs1 src) s rd ((s.halfAt ea.toNat).signExtend 32))

/-- `LDD`: the faults in their order, else the word at `ea` to `rd` and the word at `ea + 4` to `rd + 1`, both read
before either is written; `rd = 0` discards the first (rule R214). That an odd rd faults is the spec's own decision
D26; see also D28. -/
def Obligations.LoadDoubleEffect : Prop :=
  Format3 3#2 0x03#6 .ldd ∧
  ∀ (rd rs1 : RegNum) (src : Operand2) (s : State),
    let ea := s.effAddr rs1 src
    let hi := s.wordAt ea.toNat
    let lo := s.wordAt (ea + 4#32).toNat
    AccessesPair (.ldd rd rs1 src) s rd ea .read
      (∃ t, exec (.ldd rd rs1 src) s = .next t ∧ t = { s with regs := t.regs } ∧ s.SameMemory t ∧
        t.readReg rd = (if rd = 0#5 then 0#32 else hi) ∧ t.readReg (rd + 1#5) = lo ∧
        ∀ q, t.regs.get q =
          if s.cellOf (rd + 1#5) = some q then lo else if s.cellOf rd = some q then hi else s.regs.get q)

/-- `ST`, `STB`, `STH` (rules R215 to R217), with their faults (rules R43, R210). -/
def Obligations.StoreEffects : Prop :=
  Format3 3#2 0x04#6 .st ∧ Format3 3#2 0x05#6 .stb ∧ Format3 3#2 0x06#6 .sth ∧
  ∀ (rd rs1 : RegNum) (src : Operand2) (s : State),
    let ea := s.effAddr rs1 src
    ea = s.readReg rs1 + s.operand2 src ∧
    Accesses (.st rd rs1 src) s ea 4 .write (WritesBytes (.st rd rs1 src) s ea 4 (s.readReg rd)) ∧
    Accesses (.stb rd rs1 src) s ea 1 .write (WritesBytes (.stb rd rs1 src) s ea 1 (s.readReg rd)) ∧
    Accesses (.sth rd rs1 src) s ea 2 .write (WritesBytes (.sth rd rs1 src) s ea 2 (s.readReg rd))

/-- `STD`: the faults in their order, both words checked before either is written, else `r[rd]` at `ea` and `r[rd +
1]` at `ea + 4` modulo 2^32 (rule R218). That an odd rd faults is the spec's own decision D26, that both words are
checked first its decision D28; which address a fault of STD carries is log 13. -/
def Obligations.StoreDoubleEffect : Prop :=
  Format3 3#2 0x07#6 .std ∧
  ∀ (rd rs1 : RegNum) (src : Operand2) (s : State),
    let ea := s.effAddr rs1 src
    let eb := ea + 4#32
    AccessesPair (.std rd rs1 src) s rd ea .write
      (∃ t, exec (.std rd rs1 src) s = .next t ∧ t = { s with mem := t.mem } ∧
        (∀ k < 4, t.mem.readByte (ea.toNat + k) = (s.readReg rd).extractLsb' (8 * (3 - k)) 8) ∧
        (∀ k < 4, t.mem.readByte (eb.toNat + k) = (s.readReg (rd + 1#5)).extractLsb' (8 * (3 - k)) 8) ∧
        ∀ a, (a < ea.toNat ∨ ea.toNat + 4 ≤ a) → (a < eb.toNat ∨ eb.toNat + 4 ≤ a) →
          t.mem.readByte a = s.mem.readByte a)

/-! ## Windows -/

/-- `SAVE` and `RESTORE`: the sum is read in the old window; the window turns by one; a wrap sets the `WIM` bit of the
new window and that bit raises the sticky indicator; `rd` is named in the new window (rules R241, R242, R243). Which
WIM bit a wrap sets and the indicator reads, and their order, is the spec's own decision D24; CWP modulo W is its
decision D22, the sticky indicators its decision D25. -/
def Obligations.SaveRestoreEffects : Prop :=
  Format3 2#2 0x3C#6 .save ∧ Format3 2#2 0x3D#6 .restore ∧
  ∀ (rd rs1 : RegNum) (src : Operand2) (s : State), s.cfg.legal = true →
    let old := (s.psr.extractLsb' 0 5).toNat % s.cfg.windows
    let turns := fun (i : Instr) (new : Nat) (wrapped : Prop) (raisesOvf raisesUnf : Bool) =>
      ∃ t, exec i s = .next t ∧ RegWritten s t t rd (s.readReg rs1 + s.operand2 src) ∧ s.SameMemory t ∧
        (t.psr.extractLsb' 0 5).toNat = new ∧ (∀ k, 5 ≤ k → t.psr.getLsbD k = s.psr.getLsbD k) ∧
        (∀ k, t.wim.getLsbD k = true ↔ s.wim.getLsbD k = true ∨ (wrapped ∧ k = new)) ∧
        t.wovf = (s.wovf || (raisesOvf && t.wim.getLsbD new)) ∧ t.wunf = (s.wunf || (raisesUnf && t.wim.getLsbD new)) ∧
        t = { s with regs := t.regs, psr := t.psr, wim := t.wim, wovf := t.wovf, wunf := t.wunf }
    turns (.save rd rs1 src) ((old + 1) % s.cfg.windows) (old = s.cfg.windows - 1) true false ∧
    turns (.restore rd rs1 src) (if old = 0 then s.cfg.windows - 1 else old - 1) (old = 0) false true

/-! ## No-ops and stops -/

/-- The twenty FPU and coprocessor instructions change nothing: no operand is read, no fault is raised (rules R250 to
R253). Which encodings are no-ops is the spec's own decision D12. -/
def Obligations.NoOpsChangeNothing : Prop :=
  ∀ (rd rs1 rs2 : RegNum) (src : Operand2) (opf : BitVec 9) (a : BitVec 1) (cond : BitVec 4) (disp22 : BitVec 22)
    (s : State),
    NoEffect (.fpop1 rd rs1 opf rs2) s ∧ NoEffect (.fpop2 rd rs1 opf rs2) s ∧
    NoEffect (.cpop1 rd rs1 opf rs2) s ∧ NoEffect (.cpop2 rd rs1 opf rs2) s ∧
    NoEffect (.ldf rd rs1 src) s ∧ NoEffect (.ldfsr rd rs1 src) s ∧ NoEffect (.lddf rd rs1 src) s ∧
    NoEffect (.stf rd rs1 src) s ∧ NoEffect (.stfsr rd rs1 src) s ∧ NoEffect (.stdfq rd rs1 src) s ∧
    NoEffect (.stdf rd rs1 src) s ∧ NoEffect (.ldc rd rs1 src) s ∧ NoEffect (.ldcsr rd rs1 src) s ∧
    NoEffect (.lddc rd rs1 src) s ∧ NoEffect (.stc rd rs1 src) s ∧ NoEffect (.stcsr rd rs1 src) s ∧
    NoEffect (.stdcq rd rs1 src) s ∧ NoEffect (.stdc rd rs1 src) s ∧
    NoEffect (.fbfcc a cond disp22) s ∧ NoEffect (.cbccc a cond disp22) s

/-- `Ticc`, whatever its condition, `RETT`, `FLUSH` and the ten alternate-space loads and stores fault with
`unimplemented_instruction`, carrying their address and word (rules R254 to R257, R259). The fault is the spec's own
decision D11. -/
def Obligations.UnexecutedInstructionsFault : Prop :=
  ∀ (rd rs1 : RegNum) (src : Operand2) (bit29 : BitVec 1) (cond : BitVec 4) (s : State) (i : Instr),
    i ∈ [.ticc bit29 cond rs1 src, .rett rd rs1 src, .flush rd rs1 src, .lda rd rs1 src, .lduba rd rs1 src,
      .lduha rd rs1 src, .ldda rd rs1 src, .sta rd rs1 src, .stba rd rs1 src, .stha rd rs1 src, .stda rd rs1 src,
      .ldsba rd rs1 src, .ldsha rd rs1 src] →
    exec i s = .fault (.unimplementedInstruction s.pc (encode i))

/-- The forty-nine instructions of rule R258 that are illegal whatever their operands fault with
`illegal_instruction`, carrying their address and word. The fault is the spec's own decision D10. -/
def Obligations.IllegalInstructionsFault : Prop :=
  ∀ (rd rs1 : RegNum) (src : Operand2) (low22 : BitVec 22) (low19 : BitVec 19) (s : State) (i : Instr),
    i ∈ [.unimp rd low22, .reservedOp2_1 rd low22, .reservedOp2_3 rd low22, .reservedOp2_5 rd low22,
      .reservedArith09 rd low19, .reservedArith0D rd low19, .reservedArith19 rd low19, .reservedArith1D rd low19,
      .reservedArith2C rd low19, .reservedArith2D rd low19, .reservedArith2E rd low19, .reservedArith2F rd low19,
      .reservedArith3E rd low19, .reservedArith3F rd low19, .taddcc rd rs1 src, .tsubcc rd rs1 src,
      .taddcctv rd rs1 src, .tsubcctv rd rs1 src, .mulscc rd rs1 src, .reservedMem08 rd low19, .reservedMem0B rd low19,
      .reservedMem0C rd low19, .ldstub rd rs1 src, .reservedMem0E rd low19, .swap rd rs1 src, .reservedMem18 rd low19,
      .reservedMem1B rd low19, .reservedMem1C rd low19, .ldstuba rd rs1 src, .reservedMem1E rd low19,
      .swapa rd rs1 src, .reservedMem22 rd low19] ++
      [.reservedMem28 rd low19, .reservedMem29 rd low19, .reservedMem2A rd low19, .reservedMem2B rd low19,
      .reservedMem2C rd low19, .reservedMem2D rd low19, .reservedMem2E rd low19, .reservedMem2F rd low19,
      .reservedMem32 rd low19, .reservedMem38 rd low19, .reservedMem39 rd low19, .reservedMem3A rd low19,
      .reservedMem3B rd low19, .reservedMem3C rd low19, .reservedMem3D rd low19, .reservedMem3E rd low19,
      .reservedMem3F rd low19] →
    exec i s = .fault (.illegalInstruction s.pc (encode i))

/-! ## The step -/

/-- A step runs the decoded instruction: `PC <- nPC`, the four bytes at `PC` are decoded, the instruction runs from there,
and the next-`nPC` phase follows unless it halted. A fetch out of bounds faults (rules R160, R161). -/
def Obligations.StepRunsDecoded : Prop :=
  ∀ s : State,
    let m := { s with pc := s.npc, live := true }
    let byte := fun k : Nat => s.mem.readByte (s.npc.toNat + k)
    if s.cfg.memSize < s.npc.toNat + 4 then step s = .fault (.memOutOfBounds s.npc s.npc 4 .read)
    else ∀ (i : Instr) (rest : List Byte), decode ([byte 0, byte 1, byte 2, byte 3] ++ rest) = .ok (i, rest) →
      i.wellFormed = true ∧
      (∀ t, exec i m = .next t → step s = .next (if t.live = true then t.nextNpcPhase else t)) ∧
      (∀ f, exec i m = .fault f → step s = .fault f) ∧
      (∀ r, exec i m = .refused r → step s = .refused r)

/-- The next-`nPC` phase (rule R164). That the state table is one procedure at the end of the step is the spec's own
decision D19. -/
def Obligations.NextNpcPhaseCases : Prop :=
  ∀ s : State,
    (s.branchPending = true → s.executeDelaySlot = true →
      s.nextNpcPhase = { s with npc := s.pc + 4#32, executeDelaySlot := false }) ∧
    (s.branchPending = true → s.executeDelaySlot = false →
      s.nextNpcPhase = { s with npc := s.branchTarget, branchPending := false }) ∧
    (s.branchPending = false → s.nextNpcPhase = { s with npc := s.pc + 4#32 })

/-- The resulting order of execution, with no transfer pending: taken `Bicc` or `CALL`, untaken `Bicc` without and
with the annul bit, and `JMPL` (rule R165). The table of rule R165 is marked by the spec as derived; it rests on
decisions D17 and D19. -/
def Obligations.TransferOrder : Prop :=
  ∀ (s : State) (w : Word), s.fetches w → s.branchPending = false → s.executeDelaySlot = false →
    let b := s.npc
    let target := targetOf w b
    (IsBicc w ∧ s.taken w ∨ IsCall w →
      ∃ t, step s = .next t ∧ t.live = true ∧ control t = (b, b + 4#32, true, false) ∧ t.branchTarget = target ∧
        ∀ t2, PlainStep t t2 → control t2 = (b + 4#32, target, false, false) ∧
          ∀ t3, PlainStep t2 t3 → control t3 = (target, target + 4#32, false, false)) ∧
    (IsBicc w ∧ ¬ s.taken w ∧ fieldA w = 0#1 →
      ∃ t, step s = .next t ∧ t.live = true ∧ control t = (b, b + 4#32, false, false)) ∧
    (IsBicc w ∧ ¬ s.taken w ∧ fieldA w = 1#1 →
      ∃ t, step s = .next t ∧ t.live = true ∧ control t = (b + 4#32, b + 8#32, false, false)) ∧
    (IsJmpl w →
      ∃ t, step s = .next t ∧ t.live = true ∧ control t = (b, jumpTarget s w, false, false))

/-- A control transfer in a delay slot: a taken one overwrites the pending target, a `JMPL` goes at once, an untaken
`Bicc` leaves the pending target to be reached, annulling or not (rule R166). The table of rule R166 is marked by the
spec as derived; it rests on the spec's own decision D20. -/
def Obligations.TransferCouples : Prop :=
  ∀ (s : State) (w : Word), s.fetches w → s.branchPending = true → s.executeDelaySlot = false →
    let b := s.npc
    (IsBicc w ∧ s.taken w ∨ IsCall w →
      ∃ t, step s = .next t ∧ control t = (b, b + 4#32, true, false) ∧ t.branchTarget = targetOf w b ∧
        ∀ t2, PlainStep t t2 → control t2 = (b + 4#32, targetOf w b, false, false)) ∧
    (IsJmpl w → ∃ t, step s = .next t ∧ control t = (b, jumpTarget s w, false, false)) ∧
    (IsBicc w ∧ ¬ s.taken w ∧ fieldA w = 0#1 →
      ∃ t, step s = .next t ∧ control t = (b, s.branchTarget, false, false)) ∧
    (IsBicc w ∧ ¬ s.taken w ∧ fieldA w = 1#1 →
      ∃ t, step s = .next t ∧ control t = (b + 4#32, s.branchTarget, false, false))

/-- The words whose step faults as illegal are exactly those of rule R258, and those whose step faults as
unimplemented exactly those of rules R254 to R256 and R259, whatever the state. The faults are the spec's own
decisions D10, D11 and D26. -/
def Obligations.FaultingWords : Prop :=
  ∀ (s : State) (w : Word), s.fetches w →
    (IsIllegal w → step s = .fault (.illegalInstruction s.npc w)) ∧
    (IsUnimplemented w → step s = .fault (.unimplementedInstruction s.npc w)) ∧
    ∀ pc w', (step s = .fault (.illegalInstruction pc w') → IsIllegal w) ∧
      (step s = .fault (.unimplementedInstruction pc w') → IsUnimplemented w)

/-- Every word of the FPU and the coprocessor moves the program counters and the latches as any other instruction
does, and changes nothing else (rules R250 to R253). Which encodings are no-ops is the spec's own decision D12 (in
R250). -/
def Obligations.NoOpWords : Prop :=
  ∀ (s : State) (w : Word), s.fetches w → IsNoOp w →
    ∃ t, step s = .next t ∧
      t = { s with
        pc := s.npc
        npc := t.npc
        branchPending := t.branchPending
        executeDelaySlot := t.executeDelaySlot
        live := true } ∧
      s.SameMemory t ∧
      (s.executeDelaySlot = false →
        t.npc = (if s.branchPending = true then s.branchTarget else s.npc + 4#32) ∧ t.branchPending = false ∧
        t.executeDelaySlot = false)

/-- A store to the address of the very next instruction is seen by its fetch (rule R53). -/
def Obligations.FetchSeesStore : Prop :=
  ∀ (s t : State) (w : Word) (rd rs1 : RegNum) (src : Operand2),
    s.fetches w → decodeWord w = .st rd rs1 src → s.branchPending = false →
    s.effAddr rs1 src = s.npc + 4#32 → step s = .next t → t.fetches (s.readReg rd)

/-- No step is refused: every word has one of the classes of rule R80. -/
def Obligations.StepNeverRefuses : Prop :=
  ∀ (s : State) (r : Refusal), step s ≠ .refused r

/-- A step that halts has fetched the zero word, and every later step halts again in the same state (rule R163). That
the zero word halts is the spec's own decision D8 (log 9). -/
def Obligations.HaltPersists : Prop :=
  ∀ s t : State, step s = .next t → t.live = false →
    s.fetches 0#32 ∧ t.pc = t.npc ∧ step t = .next t

/-! ## Who may write what -/

/-- A step from user mode stays in user mode, leaves `TBR`, and leaves every bit of `PSR` but the condition codes and
`CWP` (rule R280). -/
def Obligations.UserModeStays : Prop :=
  ∀ s t : State, s.psr.getLsbD 7 = false → step s = .next t →
    t.psr.getLsbD 7 = false ∧ t.tbr = s.tbr ∧
    ∀ k, 5 ≤ k → k < 20 ∨ 23 < k → t.psr.getLsbD k = s.psr.getLsbD k

/-- Only the instructions that rule R24 lists change the condition codes. -/
def Obligations.FlagWriters : Prop :=
  ∀ (i : Instr) (s t : State), exec i s = .next t → t.icc ≠ s.icc → WritesFlags i

/-- Only `ST`, `STB`, `STH` and `STD` change a byte of memory (rule R46). -/
def Obligations.MemoryWriters : Prop :=
  ∀ (i : Instr) (s t : State), exec i s = .next t → t.mem ≠ s.mem → WritesMemory i

/-- `Bicc`, the stores, the writes of special registers, the no-ops and the zero word write no general register
(rule R17). -/
def Obligations.RegisterWriters : Prop :=
  ∀ (i : Instr) (s t : State), WritesNoReg i → exec i s = .next t → t.regs = s.regs

/-- `Y`, `TBR`, `WIM`, `PSR`, `FSR`, the branch latches, `PC` and `nPC` are changed only by the instructions their rules
name (rules R20, R21, R25 to R28, R30). -/
def Obligations.SpecialRegisterWriters : Prop :=
  ∀ (i : Instr) (s t : State), exec i s = .next t →
    t.cfg = s.cfg ∧ t.fsr = s.fsr ∧ t.npc = s.npc ∧
    (t.y ≠ s.y → WritesY i) ∧
    (t.tbr ≠ s.tbr → ∃ rd rs1 src, i = .wrtbr rd rs1 src) ∧
    (t.wim ≠ s.wim → Rotates i ∨ ∃ rd rs1 src, i = .wrwim rd rs1 src) ∧
    (t.psr ≠ s.psr → WritesFlags i ∨ Rotates i) ∧
    (t.pc ≠ s.pc → IsBicc (encode i) ∧ t.pc = s.pc + 4#32) ∧
    ((t.branchPending, t.executeDelaySlot, t.branchTarget) ≠ (s.branchPending, s.executeDelaySlot, s.branchTarget) →
      IsTransfer (encode i))

/-- `WOVF` and `WUNF` are sticky: no step clears them, and only `SAVE` raises `WOVF`, only `RESTORE` raises `WUNF`
(rule R29). That the indicators are sticky outputs is the spec's own decision D25. -/
def Obligations.IndicatorsSticky : Prop :=
  ∀ s t : State, step s = .next t →
    (s.wovf = true → t.wovf = true) ∧ (s.wunf = true → t.wunf = true) ∧
    ∀ w, s.fetches w →
      (t.wovf ≠ s.wovf → fieldOp w = 2#2 ∧ fieldOp3 w = 0x3C#6) ∧
      (t.wunf ≠ s.wunf → fieldOp w = 2#2 ∧ fieldOp3 w = 0x3D#6)

/-! ## Laws -/

/-- `V` after an addition or subtraction is set exactly when the signed result lies outside the word, and `C` exactly on
an unsigned carry or borrow (rule R135). -/
def Obligations.OverflowLaws : Prop :=
  ∀ (rd rs1 : RegNum) (src : Operand2) (s : State),
    let a := s.readReg rs1
    let b := s.operand2 src
    let x : Int := if s.psr.getLsbD 20 = true then 1 else 0
    let outside := fun z : Int => z < -2 ^ 31 ∨ 2 ^ 31 ≤ z
    (∀ t, exec (.addcc rd rs1 src) s = .next t →
      (t.icc.v = true ↔ outside (a.toInt + b.toInt)) ∧ (t.icc.c = true ↔ 2 ^ 32 ≤ (a.toNat : Int) + b.toNat)) ∧
    (∀ t, exec (.addxcc rd rs1 src) s = .next t →
      (t.icc.v = true ↔ outside (a.toInt + b.toInt + x)) ∧
      (t.icc.c = true ↔ 2 ^ 32 ≤ (a.toNat : Int) + b.toNat + x)) ∧
    (∀ t, exec (.subcc rd rs1 src) s = .next t →
      (t.icc.v = true ↔ outside (a.toInt - b.toInt)) ∧ (t.icc.c = true ↔ a.toNat < b.toNat)) ∧
    (∀ t, exec (.subxcc rd rs1 src) s = .next t →
      (t.icc.v = true ↔ outside (a.toInt - b.toInt - x)) ∧ (t.icc.c = true ↔ (a.toNat : Int) < b.toNat + x))

/-- After `SUBcc a, b` the signed and unsigned branch predicates compare `a` with `b` (rule R171). -/
def Obligations.CompareThenBranch : Prop :=
  ∀ (rd rs1 : RegNum) (src : Operand2) (s t : State), exec (.subcc rd rs1 src) s = .next t →
    let a := s.readReg rs1
    let b := s.operand2 src
    let p := branchPred t.icc
    (p 1#4 = true ↔ a = b) ∧ (p 9#4 = true ↔ a ≠ b) ∧
    (p 3#4 = true ↔ a.toInt < b.toInt) ∧ (p 2#4 = true ↔ a.toInt ≤ b.toInt) ∧
    (p 10#4 = true ↔ b.toInt < a.toInt) ∧ (p 11#4 = true ↔ b.toInt ≤ a.toInt) ∧
    (p 5#4 = true ↔ a.toNat < b.toNat) ∧ (p 4#4 = true ↔ a.toNat ≤ b.toNat) ∧
    (p 12#4 = true ↔ b.toNat < a.toNat) ∧ (p 13#4 = true ↔ b.toNat ≤ a.toNat)

/-- The `SDIV` rows of the table of rule R153: the quotient is truncated toward zero; `Y` is the remainder of the
magnitudes when the signs agree, its complement when they differ and the quotient is not 0, its negation when they
differ and the quotient is 0. The spec marks the table as derived; it rests on its own decision D14 (log 18). -/
def Obligations.SignedDivideTable : Prop :=
  ∀ (rd rs1 : RegNum) (src : Operand2) (s : State),
    let a := s.readReg rs1
    let b := s.operand2 src
    let m := BitVec.ofNat 32 (a.toInt.natAbs % b.toInt.natAbs)
    b ≠ 0#32 →
      WritesRegY (.sdiv rd rs1 src) s rd (BitVec.ofInt 32 (a.toInt.tdiv b.toInt))
        (if a.getLsbD 31 = b.getLsbD 31 then m else if a.toInt.natAbs / b.toInt.natAbs = 0 then -m else ~~~m)

/-- A load from the address just stored to returns what was stored (rule R221). The spec marks rule R221 as derived.
-/
def Obligations.StoreThenLoad : Prop :=
  ∀ (rd rs1 rd' rs1' : RegNum) (src src' : Operand2) (s t : State),
    t.effAddr rs1' src' = s.effAddr rs1 src →
    let x := s.readReg rd
    (exec (.st rd rs1 src) s = .next t → WritesReg (.ld rd' rs1' src') t rd' x) ∧
    (exec (.stb rd rs1 src) s = .next t →
      WritesReg (.ldub rd' rs1' src') t rd' (x &&& 0xFF#32) ∧
      WritesReg (.ldsb rd' rs1' src') t rd' ((x.setWidth 8).signExtend 32)) ∧
    (exec (.sth rd rs1 src) s = .next t →
      WritesReg (.lduh rd' rs1' src') t rd' (x &&& 0xFFFF#32) ∧
      WritesReg (.ldsh rd' rs1' src') t rd' ((x.setWidth 16).signExtend 32)) ∧
    (exec (.std rd rs1 src) s = .next t → rd'.getLsbD 0 = false →
      ∃ u, exec (.ldd rd' rs1' src') t = .next u ∧ u.readReg rd' = (if rd' = 0#5 then 0#32 else x) ∧
        u.readReg (rd' + 1#5) = s.readReg (rd + 1#5))

/-- What `WRY`, `WRWIM`, `WRTBR` and `WRPSR` write in supervisor mode, the read that follows returns; after a `WRPSR`
that clears `S` the read of `PSR` does so unless `RD_PRIV_CHECK` holds, when it does nothing (rule R202). The spec
marks rule R202 as derived. -/
def Obligations.SpecialRoundTrip : Prop :=
  ∀ (rd rs1 rd' rs1' : RegNum) (src src' : Operand2) (s t : State), s.psr.getLsbD 7 = true →
    let x := s.readReg rs1 ^^^ s.operand2 src
    (exec (.wry rd rs1 src) s = .next t → WritesReg (.rdy rd' rs1' src') t rd' x) ∧
    (exec (.wrwim rd rs1 src) s = .next t → WritesReg (.rdwim rd' rs1' src') t rd' x) ∧
    (exec (.wrtbr rd rs1 src) s = .next t → WritesReg (.rdtbr rd' rs1' src') t rd' x) ∧
    (exec (.wrpsr rd rs1 src) s = .next t →
      if x.getLsbD 7 = true ∨ s.cfg.rdPrivCheck = false then WritesReg (.rdpsr rd' rs1' src') t rd' x
      else NoEffect (.rdpsr rd' rs1' src') t)

/-- After a `SAVE` the outputs are the inputs of the old window; `RESTORE` after `SAVE` gives back every name; and `W`
successive rotations return `CWP` to its starting value (rules R15, R240) and set `WOVF`. That W SAVEs set WOVF
follows from rule R241 and rests on the spec's own decisions D24 (a wrap sets the bit it then tests) and D25 (the
sticky indicator); CWP modulo W is its decision D22; the spec marks the table of rule R240 as derived. -/
def Obligations.WindowRoundTrip : Prop :=
  ∀ s : State, s.cfg.legal = true →
    (∃ t u, exec (.save 0#5 0#5 (.reg 0#8 0#5)) s = .next t ∧ exec (.restore 0#5 0#5 (.reg 0#8 0#5)) t = .next u ∧
      t.regs = s.regs ∧ u.regs = s.regs ∧
      (∀ n : RegNum, 8 ≤ n.toNat → n.toNat < 16 → t.readReg n = s.readReg (n + 16#5)) ∧
      ∀ n : RegNum, u.readReg n = s.readReg n) ∧
    ∃ t, saveTimes s.cfg.windows s = .next t ∧ t.cwp = s.cwp ∧ t.regs = s.regs ∧ t.wovf = true

/-! ## The invariant -/

/-- The reset state meets the invariant. Its memory size, general registers and unlisted bytes are the model's choices
(log 2, log 4, log 7). -/
def Obligations.ResetMeetsInvariant : Prop := State.reset.Inv

/-- Every step keeps the invariant: legal parameters, canonical memory inside `0 .. N-1`, an aligned `nPC`, one of the two
reachable latch combinations, an aligned pending target, and no cell outside the register file written. -/
def Obligations.StepKeepsInvariant : Prop :=
  ∀ s t : State, s.Inv → step s = .next t → t.Inv

/-! ## The engines -/

/-- The iterative multiply engine of rule R145 computes the products of rules R141 and R143. -/
def Obligations.MultiplyEnginesAgree : Prop :=
  ∀ a b : Word, mulEngine a b = umulPair a b ∧ smulEngine a b = smulPair a b

/-- The iterative divide engine of rule R151 computes the results of rules R146 and R148 for every divisor but 0, for
which it returns what rule R150 records. Which pair SDIV negates is the spec's own decision D14 (log 18); the spec
marks the value for a zero divisor in rule R150 as derived. -/
def Obligations.DivideEnginesAgree : Prop :=
  ∀ a b : Word,
    (b ≠ 0#32 → divEngine a b = udivPair a b ∧ sdivEngine a b = sdivPair a b) ∧
    divEngine a 0#32 = a ++ 0xFFFFFFFF#32
end

