-- ==== Sys2Proof/Laws/Decode.lean ====
section
/-! SUPPORT. The fields of an encoded word, and of a word put together from its bytes. -/

namespace Sys2Proof

theorem toNat_append' {m n : Nat} (x : BitVec m) (y : BitVec n) :
    (x ++ y).toNat = x.toNat * 2 ^ n + y.toNat := by
  rw [BitVec.toNat_append, ← Nat.shiftLeft_add_eq_or_of_lt y.isLt, Nat.shiftLeft_eq]

/-! ## The words as numbers -/

theorem toNat_encodeFormat3 (op : BitVec 2) (op3 : BitVec 6) (rd rs1 : RegNum) (src : Operand2) :
    (encodeFormat3 op op3 rd rs1 src).toNat =
      op.toNat * 2 ^ 30 + rd.toNat * 2 ^ 25 + op3.toNat * 2 ^ 19 + rs1.toNat * 2 ^ 14 + (encodeSrc src).toNat := by
  have h : (encodeFormat3 op op3 rd rs1 src).toNat =
      (((op.toNat * 2 ^ 5 + rd.toNat) * 2 ^ 6 + op3.toNat) * 2 ^ 5 + rs1.toNat) * 2 ^ 14 + (encodeSrc src).toNat := by
    rw [← toNat_append', ← toNat_append', ← toNat_append', ← toNat_append']; rfl
  rw [h]; ring

theorem toNat_encodeReserved3 (op : BitVec 2) (op3 : BitVec 6) (rd : RegNum) (low19 : BitVec 19) :
    (encodeReserved3 op op3 rd low19).toNat =
      op.toNat * 2 ^ 30 + rd.toNat * 2 ^ 25 + op3.toNat * 2 ^ 19 + low19.toNat := by
  have h : (encodeReserved3 op op3 rd low19).toNat =
      ((op.toNat * 2 ^ 5 + rd.toNat) * 2 ^ 6 + op3.toNat) * 2 ^ 19 + low19.toNat := by
    rw [← toNat_append', ← toNat_append', ← toNat_append']; rfl
  rw [h]; ring

theorem toNat_encodeFpop (op3 : BitVec 6) (rd rs1 : RegNum) (opf : BitVec 9) (rs2 : RegNum) :
    (encodeFpop op3 rd rs1 opf rs2).toNat =
      2 * 2 ^ 30 + rd.toNat * 2 ^ 25 + op3.toNat * 2 ^ 19 + rs1.toNat * 2 ^ 14 + opf.toNat * 2 ^ 5 + rs2.toNat := by
  have h : (encodeFpop op3 rd rs1 opf rs2).toNat =
      (((((2#2).toNat * 2 ^ 5 + rd.toNat) * 2 ^ 6 + op3.toNat) * 2 ^ 5 + rs1.toNat) * 2 ^ 9 + opf.toNat) * 2 ^ 5 +
        rs2.toNat := by
    rw [← toNat_append', ← toNat_append', ← toNat_append', ← toNat_append', ← toNat_append']; rfl
  have h2 : (2#2).toNat = 2 := rfl
  omega

theorem toNat_encodeFormat2 (op2 : BitVec 3) (rd : RegNum) (low22 : BitVec 22) :
    (encodeFormat2 op2 rd low22).toNat = rd.toNat * 2 ^ 25 + op2.toNat * 2 ^ 22 + low22.toNat := by
  have h : (encodeFormat2 op2 rd low22).toNat =
      (((0#2).toNat * 2 ^ 5 + rd.toNat) * 2 ^ 3 + op2.toNat) * 2 ^ 22 + low22.toNat := by
    rw [← toNat_append', ← toNat_append', ← toNat_append']; rfl
  have h2 : (0#2).toNat = 0 := rfl
  rw [h, h2]; ring

theorem toNat_encodeBranch (op2 : BitVec 3) (a : BitVec 1) (cond : BitVec 4) (disp22 : BitVec 22) :
    (encodeBranch op2 a cond disp22).toNat =
      a.toNat * 2 ^ 29 + cond.toNat * 2 ^ 25 + op2.toNat * 2 ^ 22 + disp22.toNat := by
  have h : (encodeBranch op2 a cond disp22).toNat =
      ((((0#2).toNat * 2 ^ 1 + a.toNat) * 2 ^ 4 + cond.toNat) * 2 ^ 3 + op2.toNat) * 2 ^ 22 + disp22.toNat := by
    rw [← toNat_append', ← toNat_append', ← toNat_append', ← toNat_append']; rfl
  have h2 : (0#2).toNat = 0 := rfl
  rw [h, h2]; ring

theorem toNat_encodeSrc_reg (asi : BitVec 8) (rs2 : RegNum) :
    (encodeSrc (.reg asi rs2)).toNat = asi.toNat * 2 ^ 5 + rs2.toNat := by
  have h : (encodeSrc (.reg asi rs2)).toNat = ((0#1).toNat * 2 ^ 8 + asi.toNat) * 2 ^ 5 + rs2.toNat := by
    rw [← toNat_append', ← toNat_append']; rfl
  have h2 : (0#1).toNat = 0 := rfl
  rw [h, h2]; ring

theorem toNat_encodeSrc_imm (simm13 : BitVec 13) : (encodeSrc (.imm simm13)).toNat = 2 ^ 13 + simm13.toNat := by
  have h : (encodeSrc (.imm simm13)).toNat = (1#1).toNat * 2 ^ 13 + simm13.toNat := by
    rw [← toNat_append']; rfl
  have h2 : (1#1).toNat = 1 := rfl
  rw [h, h2]; ring

theorem toNat_field (w : Word) (s k : Nat) : (w.extractLsb' s k).toNat = w.toNat / 2 ^ s % 2 ^ k := by
  rw [BitVec.extractLsb'_toNat, Nat.shiftRight_eq_div_pow]

/-! ## Format 3 -/

section Format3
variable (op : BitVec 2) (op3 : BitVec 6) (rd rs1 : RegNum) (src : Operand2)

@[simp] theorem fieldOp_encodeFormat3 : fieldOp (encodeFormat3 op op3 rd rs1 src) = op := by
  apply BitVec.eq_of_toNat_eq
  rw [fieldOp, toNat_field, toNat_encodeFormat3]; omega

@[simp] theorem fieldRd_encodeFormat3 : fieldRd (encodeFormat3 op op3 rd rs1 src) = rd := by
  apply BitVec.eq_of_toNat_eq
  rw [fieldRd, toNat_field, toNat_encodeFormat3]; omega

@[simp] theorem fieldOp3_encodeFormat3 : fieldOp3 (encodeFormat3 op op3 rd rs1 src) = op3 := by
  apply BitVec.eq_of_toNat_eq
  rw [fieldOp3, toNat_field, toNat_encodeFormat3]; omega

@[simp] theorem fieldRs1_encodeFormat3 : fieldRs1 (encodeFormat3 op op3 rd rs1 src) = rs1 := by
  apply BitVec.eq_of_toNat_eq
  rw [fieldRs1, toNat_field, toNat_encodeFormat3]; omega

@[simp] theorem fieldSrc_encodeFormat3 : fieldSrc (encodeFormat3 op op3 rd rs1 src) = src := by
  cases src with
  | reg asi rs2 =>
    have hi : fieldI (encodeFormat3 op op3 rd rs1 (.reg asi rs2)) = 0#1 := by
      apply BitVec.eq_of_toNat_eq
      rw [fieldI, toNat_field, toNat_encodeFormat3, toNat_encodeSrc_reg]
      show _ = 0
      omega
    rw [fieldSrc, if_pos hi]
    congr 1 <;> apply BitVec.eq_of_toNat_eq
    · rw [fieldAsi, toNat_field, toNat_encodeFormat3, toNat_encodeSrc_reg]; omega
    · rw [fieldRs2, toNat_field, toNat_encodeFormat3, toNat_encodeSrc_reg]; omega
  | imm simm13 =>
    have hi : fieldI (encodeFormat3 op op3 rd rs1 (.imm simm13)) = 1#1 := by
      apply BitVec.eq_of_toNat_eq
      rw [fieldI, toNat_field, toNat_encodeFormat3, toNat_encodeSrc_imm]
      show _ = 1
      omega
    rw [fieldSrc, if_neg (by rw [hi]; decide)]
    congr 1
    apply BitVec.eq_of_toNat_eq
    rw [fieldSimm13, toNat_field, toNat_encodeFormat3, toNat_encodeSrc_imm]; omega

end Format3

section Reserved3
variable (op : BitVec 2) (op3 : BitVec 6) (rd : RegNum) (low19 : BitVec 19)

@[simp] theorem fieldOp_encodeReserved3 : fieldOp (encodeReserved3 op op3 rd low19) = op := by
  apply BitVec.eq_of_toNat_eq
  rw [fieldOp, toNat_field, toNat_encodeReserved3]; omega

@[simp] theorem fieldOp3_encodeReserved3 : fieldOp3 (encodeReserved3 op op3 rd low19) = op3 := by
  apply BitVec.eq_of_toNat_eq
  rw [fieldOp3, toNat_field, toNat_encodeReserved3]; omega

@[simp] theorem fieldRd_encodeReserved3 : fieldRd (encodeReserved3 op op3 rd low19) = rd := by
  apply BitVec.eq_of_toNat_eq
  rw [fieldRd, toNat_field, toNat_encodeReserved3]; omega

@[simp] theorem fieldLow19_encodeReserved3 : fieldLow19 (encodeReserved3 op op3 rd low19) = low19 := by
  apply BitVec.eq_of_toNat_eq
  rw [fieldLow19, toNat_field, toNat_encodeReserved3]; omega

end Reserved3

section Fpop
variable (op3 : BitVec 6) (rd rs1 : RegNum) (opf : BitVec 9) (rs2 : RegNum)

@[simp] theorem fieldOp_encodeFpop : fieldOp (encodeFpop op3 rd rs1 opf rs2) = 2#2 := by
  apply BitVec.eq_of_toNat_eq
  rw [fieldOp, toNat_field, toNat_encodeFpop]
  show _ = 2
  omega

@[simp] theorem fieldOp3_encodeFpop : fieldOp3 (encodeFpop op3 rd rs1 opf rs2) = op3 := by
  apply BitVec.eq_of_toNat_eq
  rw [fieldOp3, toNat_field, toNat_encodeFpop]; omega

@[simp] theorem fieldRd_encodeFpop : fieldRd (encodeFpop op3 rd rs1 opf rs2) = rd := by
  apply BitVec.eq_of_toNat_eq
  rw [fieldRd, toNat_field, toNat_encodeFpop]; omega

@[simp] theorem fieldRs1_encodeFpop : fieldRs1 (encodeFpop op3 rd rs1 opf rs2) = rs1 := by
  apply BitVec.eq_of_toNat_eq
  rw [fieldRs1, toNat_field, toNat_encodeFpop]; omega

@[simp] theorem fieldOpf_encodeFpop : fieldOpf (encodeFpop op3 rd rs1 opf rs2) = opf := by
  apply BitVec.eq_of_toNat_eq
  rw [fieldOpf, toNat_field, toNat_encodeFpop]; omega

@[simp] theorem fieldRs2_encodeFpop : fieldRs2 (encodeFpop op3 rd rs1 opf rs2) = rs2 := by
  apply BitVec.eq_of_toNat_eq
  rw [fieldRs2, toNat_field, toNat_encodeFpop]; omega

end Fpop

/-! ## Format 2 and format 1 -/

section Format2
variable (op2 : BitVec 3) (rd : RegNum) (low22 : BitVec 22)

@[simp] theorem fieldOp_encodeFormat2 : fieldOp (encodeFormat2 op2 rd low22) = 0#2 := by
  apply BitVec.eq_of_toNat_eq
  rw [fieldOp, toNat_field, toNat_encodeFormat2]
  show _ = 0
  omega

@[simp] theorem fieldOp2_encodeFormat2 : fieldOp2 (encodeFormat2 op2 rd low22) = op2 := by
  apply BitVec.eq_of_toNat_eq
  rw [fieldOp2, toNat_field, toNat_encodeFormat2]; omega

@[simp] theorem fieldRd_encodeFormat2 : fieldRd (encodeFormat2 op2 rd low22) = rd := by
  apply BitVec.eq_of_toNat_eq
  rw [fieldRd, toNat_field, toNat_encodeFormat2]; omega

@[simp] theorem fieldImm22_encodeFormat2 : fieldImm22 (encodeFormat2 op2 rd low22) = low22 := by
  apply BitVec.eq_of_toNat_eq
  rw [fieldImm22, toNat_field, toNat_encodeFormat2]; omega

/-- A format-2 word determines its fields. -/
theorem encodeFormat2_inj {op2' : BitVec 3} {rd' : RegNum} {low22' : BitVec 22}
    (h : encodeFormat2 op2 rd low22 = encodeFormat2 op2' rd' low22') :
    op2 = op2' ∧ rd = rd' ∧ low22 = low22' := by
  refine ⟨?_, ?_, ?_⟩
  · simpa using congrArg fieldOp2 h
  · simpa using congrArg fieldRd h
  · simpa using congrArg fieldImm22 h

end Format2

section Branch
variable (op2 : BitVec 3) (a : BitVec 1) (cond : BitVec 4) (disp22 : BitVec 22)

@[simp] theorem fieldOp_encodeBranch : fieldOp (encodeBranch op2 a cond disp22) = 0#2 := by
  apply BitVec.eq_of_toNat_eq
  rw [fieldOp, toNat_field, toNat_encodeBranch]
  show _ = 0
  omega

@[simp] theorem fieldOp2_encodeBranch : fieldOp2 (encodeBranch op2 a cond disp22) = op2 := by
  apply BitVec.eq_of_toNat_eq
  rw [fieldOp2, toNat_field, toNat_encodeBranch]; omega

@[simp] theorem fieldA_encodeBranch : fieldA (encodeBranch op2 a cond disp22) = a := by
  apply BitVec.eq_of_toNat_eq
  rw [fieldA, toNat_field, toNat_encodeBranch]; omega

@[simp] theorem fieldCond_encodeBranch : fieldCond (encodeBranch op2 a cond disp22) = cond := by
  apply BitVec.eq_of_toNat_eq
  rw [fieldCond, toNat_field, toNat_encodeBranch]; omega

@[simp] theorem fieldImm22_encodeBranch : fieldImm22 (encodeBranch op2 a cond disp22) = disp22 := by
  apply BitVec.eq_of_toNat_eq
  rw [fieldImm22, toNat_field, toNat_encodeBranch]; omega

end Branch

theorem toNat_encode_call (disp30 : BitVec 30) : (encode (.call disp30)).toNat = 2 ^ 30 + disp30.toNat := by
  have h : (encode (.call disp30)).toNat = (1#2).toNat * 2 ^ 30 + disp30.toNat := by
    rw [← toNat_append']; rfl
  have h2 : (1#2).toNat = 1 := rfl
  rw [h, h2]; ring

@[simp] theorem fieldOp_encode_call (disp30 : BitVec 30) : fieldOp (encode (.call disp30)) = 1#2 := by
  apply BitVec.eq_of_toNat_eq
  rw [fieldOp, toNat_field, toNat_encode_call]
  show _ = 1
  omega

@[simp] theorem fieldDisp30_encode_call (disp30 : BitVec 30) : fieldDisp30 (encode (.call disp30)) = disp30 := by
  apply BitVec.eq_of_toNat_eq
  rw [fieldDisp30, toNat_field, toNat_encode_call]; omega

/-- The rd field of a Ticc word lies over its bit 29 and its cond. -/
theorem toNat_encode_ticc_rd (bit29 : BitVec 1) (cond : BitVec 4) :
    (bit29 ++ cond : BitVec 5).toNat = bit29.toNat * 2 ^ 4 + cond.toNat := toNat_append' _ _

/-! ## Bytes -/

theorem toNat_wordOfBytes (b0 b1 b2 b3 : Byte) :
    (wordOfBytes b0 b1 b2 b3).toNat = b0.toNat * 2 ^ 24 + b1.toNat * 2 ^ 16 + b2.toNat * 2 ^ 8 + b3.toNat := by
  have h : (wordOfBytes b0 b1 b2 b3).toNat =
      ((b0.toNat * 2 ^ 8 + b1.toNat) * 2 ^ 8 + b2.toNat) * 2 ^ 8 + b3.toNat := by
    rw [← toNat_append', ← toNat_append', ← toNat_append']; rfl
  rw [h]; ring

/-- The bytes of a word, put together in their order, are the word. -/
theorem wordOfBytes_bytes (w : Word) :
    wordOfBytes (w.extractLsb' 24 8) (w.extractLsb' 16 8) (w.extractLsb' 8 8) (w.extractLsb' 0 8) = w := by
  apply BitVec.eq_of_toNat_eq
  simp only [toNat_wordOfBytes, toNat_field]
  omega

end Sys2Proof
end

