-- ==== Sys2Proof/Laws/Memory.lean ====
section
/-! SUPPORT. Memory: read after write, and that every operation keeps the canonical form. -/

namespace Sys2Proof.Machine

/-! ## One byte -/

theorem lookupByte_eraseByte (l : List Host.Cell) (a b : Nat) :
    lookupByte (eraseByte l a) b = if b = a then unlistedByte else lookupByte l b := by
  induction l with
  | nil => simp [lookupByte, eraseByte]
  | cons c rest ih =>
    obtain ⟨k, v⟩ := c
    by_cases hk : k = a <;> by_cases hb : b = a <;> by_cases hkb : k = b <;>
      simp_all [lookupByte, eraseByte]

theorem lookupByte_insertByte (l : List Host.Cell) (a b : Nat) (v : Byte) (h : ∀ c ∈ l, c.1 ≠ a) :
    lookupByte (insertByte l a v) b = if b = a then v else lookupByte l b := by
  induction l with
  | nil => simp only [insertByte, lookupByte, eq_comm]
  | cons c rest ih =>
    obtain ⟨k, u⟩ := c
    have hk : k ≠ a := h (k, u) (by simp)
    have hrest := ih fun c hc => h c (by simp [hc])
    by_cases hlt : a < k
    · simp only [insertByte, hlt, if_true, lookupByte, eq_comm (a := a)]
    · simp only [insertByte, hlt, if_false, lookupByte, hrest]
      by_cases hb : b = a
      · subst hb; simp [hk]
      · simp [hb]

theorem mem_eraseByte (l : List Host.Cell) (a : Nat) (c : Host.Cell) :
    c ∈ eraseByte l a ↔ c ∈ l ∧ c.1 ≠ a := by
  induction l with
  | nil => simp [eraseByte]
  | cons d rest ih =>
    obtain ⟨k, v⟩ := d
    by_cases hk : k = a
    · simp only [eraseByte, hk, if_true, ih, List.mem_cons]
      constructor
      · rintro ⟨h1, h2⟩; exact ⟨Or.inr h1, h2⟩
      · rintro ⟨rfl | h1, h2⟩
        · exact absurd rfl h2
        · exact ⟨h1, h2⟩
    · simp only [eraseByte, hk, if_false, List.mem_cons, ih]
      constructor
      · rintro (rfl | ⟨h1, h2⟩)
        · exact ⟨Or.inl rfl, hk⟩
        · exact ⟨Or.inr h1, h2⟩
      · rintro ⟨rfl | h1, h2⟩
        · exact Or.inl rfl
        · exact Or.inr ⟨h1, h2⟩

theorem mem_insertByte (l : List Host.Cell) (a : Nat) (v : Byte) (c : Host.Cell) :
    c ∈ insertByte l a v ↔ c = (a, v) ∨ c ∈ l := by
  induction l with
  | nil => simp [insertByte]
  | cons d rest ih =>
    obtain ⟨k, u⟩ := d
    by_cases hlt : a < k
    · simp [insertByte, hlt]
    · simp only [insertByte, hlt, if_false, List.mem_cons, ih]; tauto

/-- The whole of what one write does to what one read sees. -/
theorem Memory.readByte_writeByte (m : Memory) (a b : Nat) (v : Byte) :
    (m.writeByte a v).readByte b = if b = a then v else m.readByte b := by
  unfold Memory.writeByte Memory.readByte
  by_cases hv : v = unlistedByte
  · simp [hv, lookupByte_eraseByte]
  · simp only [hv, if_false]
    rw [lookupByte_insertByte _ _ _ _ fun c hc => ((mem_eraseByte _ _ _).1 hc).2, lookupByte_eraseByte]
    by_cases hb : b = a <;> simp [hb]

@[simp] theorem Memory.readByte_writeByte_same (m : Memory) (a : Nat) (v : Byte) :
    (m.writeByte a v).readByte a = v := by simp [Memory.readByte_writeByte]

theorem Memory.readByte_writeByte_ne (m : Memory) {a b : Nat} (v : Byte) (h : b ≠ a) :
    (m.writeByte a v).readByte b = m.readByte b := by simp [Memory.readByte_writeByte, h]

/-! ## Wider accesses -/

/-- A big-endian write leaves every byte outside it. -/
theorem Memory.readByte_writeBE_outside (m : Memory) (a b : Nat) (v : Word) (n : Nat) (h : b < a ∨ a + n ≤ b) :
    (m.writeBE a v n).readByte b = m.readByte b := by
  induction n generalizing m a with
  | zero => rfl
  | succ n ih =>
    rw [Memory.writeBE, ih _ _ (by omega), Memory.readByte_writeByte_ne _ _ (by omega)]

/-- The byte `k` of a big-endian write of `n` bytes is bits `8(n-k)-1 : 8(n-k-1)` of the value. -/
theorem Memory.readByte_writeBE_inside (m : Memory) (a : Nat) (v : Word) (n k : Nat) (h : k < n) :
    (m.writeBE a v n).readByte (a + k) = v.extractLsb' (8 * (n - 1 - k)) 8 := by
  induction n generalizing m a k with
  | zero => omega
  | succ n ih =>
    rw [Memory.writeBE]
    cases k with
    | zero =>
      rw [Memory.readByte_writeBE_outside _ _ _ _ _ (by omega)]
      simp
    | succ k =>
      have h1 : a + (k + 1) = a + 1 + k := by omega
      have h2 : n + 1 - 1 - (k + 1) = n - 1 - k := by omega
      rw [h1, ih _ _ _ (by omega), h2]

/-! ## The canonical form -/

theorem risingFrom_mono {lo lo' : Nat} {l : List Host.Cell} (h : risingFrom lo l = true) (hle : lo' ≤ lo) :
    risingFrom lo' l = true := by
  cases l with
  | nil => rfl
  | cons c rest =>
    obtain ⟨b, v⟩ := c
    simp only [risingFrom, Bool.and_eq_true, decide_eq_true_eq] at h ⊢
    exact ⟨by omega, h.2⟩

theorem risingFrom_eraseByte {lo : Nat} {l : List Host.Cell} (a : Nat) (h : risingFrom lo l = true) :
    risingFrom lo (eraseByte l a) = true := by
  induction l generalizing lo with
  | nil => rfl
  | cons c rest ih =>
    obtain ⟨b, v⟩ := c
    simp only [risingFrom, Bool.and_eq_true, decide_eq_true_eq] at h
    by_cases hb : b = a
    · simp only [eraseByte, hb, if_true]
      exact ih (risingFrom_mono h.2 (by omega))
    · simp only [eraseByte, hb, if_false, risingFrom, Bool.and_eq_true, decide_eq_true_eq]
      exact ⟨h.1, ih h.2⟩

theorem risingFrom_insertByte {lo a : Nat} {l : List Host.Cell} (v : Byte) (h : risingFrom lo l = true)
    (hlo : lo ≤ a) (hne : ∀ c ∈ l, c.1 ≠ a) : risingFrom lo (insertByte l a v) = true := by
  induction l generalizing lo with
  | nil => simp [insertByte, risingFrom, hlo]
  | cons c rest ih =>
    obtain ⟨b, u⟩ := c
    have hb : b ≠ a := hne (b, u) (by simp)
    simp only [risingFrom, Bool.and_eq_true, decide_eq_true_eq] at h
    by_cases hlt : a < b
    · simp only [insertByte, hlt, if_true, risingFrom, Bool.and_eq_true, decide_eq_true_eq]
      exact ⟨hlo, by omega, h.2⟩
    · simp only [insertByte, hlt, if_false, risingFrom, Bool.and_eq_true, decide_eq_true_eq]
      exact ⟨h.1, ih h.2 (by omega) fun c hc => hne c (by simp [hc])⟩

/-- Writing one byte keeps the canonical form. -/
theorem Memory.wf_writeByte {m : Memory} (a : Nat) (v : Byte) (h : m.wf = true) : (m.writeByte a v).wf = true := by
  simp only [Memory.wf, Bool.and_eq_true, List.all_eq_true] at h ⊢
  obtain ⟨h1, h2⟩ := h
  by_cases hv : v = unlistedByte
  · simp only [Memory.writeByte, hv, if_true]
    exact ⟨risingFrom_eraseByte a h1, fun c hc => h2 c ((mem_eraseByte _ _ _).1 hc).1⟩
  · simp only [Memory.writeByte, hv, if_false]
    refine ⟨risingFrom_insertByte v (risingFrom_eraseByte a h1) (Nat.zero_le _)
      fun c hc => ((mem_eraseByte _ _ _).1 hc).2, fun c hc => ?_⟩
    rcases (mem_insertByte _ _ _ _).1 hc with rfl | hc
    · simpa using hv
    · exact h2 c ((mem_eraseByte _ _ _).1 hc).1

/-- Writing a value big-endian keeps the canonical form. -/
theorem Memory.wf_writeBE {m : Memory} (a : Nat) (v : Word) (n : Nat) (h : m.wf = true) :
    (m.writeBE a v n).wf = true := by
  induction n generalizing m a with
  | zero => exact h
  | succ n ih => exact ih _ (Memory.wf_writeByte _ _ h)

/-- Loading words keeps the canonical form. -/
theorem Memory.wf_storeWords {m : Memory} (a : Nat) (ws : List Word) (h : m.wf = true) :
    (m.storeWords a ws).wf = true := by
  induction ws generalizing m a with
  | nil => exact h
  | cons w rest ih => exact ih _ (Memory.wf_writeBE _ _ _ h)

/-- The memory of the reset state has the canonical form. -/
theorem Memory.wf_reset : State.reset.mem.wf = true := rfl

/-! ## The listed addresses stay below the size -/

theorem Memory.within_writeByte {m : Memory} {a n : Nat} (v : Byte) (h : m.within n = true) (ha : a < n) :
    (m.writeByte a v).within n = true := by
  simp only [Memory.within, List.all_eq_true, decide_eq_true_eq] at h ⊢
  intro c hc
  unfold Memory.writeByte at hc
  split at hc
  · exact h c ((mem_eraseByte _ _ _).1 hc).1
  · rcases (mem_insertByte _ _ _ _).1 hc with rfl | hc
    · exact ha
    · exact h c ((mem_eraseByte _ _ _).1 hc).1

/-- An in-bounds big-endian write lists no address outside memory. -/
theorem Memory.within_writeBE {m : Memory} {a n : Nat} (v : Word) (k : Nat) (h : m.within n = true)
    (ha : a + k ≤ n) : (m.writeBE a v k).within n = true := by
  induction k generalizing m a with
  | zero => exact h
  | succ k ih => exact ih (Memory.within_writeByte _ h (by omega)) (by omega)

end Sys2Proof.Machine
end

