-- ==== Sys2Proof/Laws/Registers.lean ====
section
/-! SUPPORT. The register file, the fields of a special register, and the window arithmetic. -/

namespace Sys2Proof.Machine

/-! ## Cells -/

@[simp] theorem RegFile.get_set_same (r : RegFile) (p : PhysReg) (v : Word) : (r.set p v).get p = v := by
  cases p <;> simp [RegFile.get, RegFile.set]

/-- A write leaves every other cell. -/
theorem RegFile.get_set_ne (r : RegFile) {p q : PhysReg} (v : Word) (h : q ≠ p) : (r.set p v).get q = r.get q := by
  cases p with
  | g i =>
    cases q with
    | g j =>
      have hji : (i : Nat) ≠ j := fun e => h (by rw [Fin.ext e])
      simp [RegFile.get, RegFile.set, hji]
    | o _ _ => rfl
    | l _ _ => rfl
  | o w i =>
    cases q with
    | g _ => rfl
    | l _ _ => rfl
    | o w' j =>
      by_cases hw : (w : Nat) = w'
      · have hji : (i : Nat) ≠ j := fun e => h (by rw [Fin.ext hw, Fin.ext e])
        have hw' : w = w' := Fin.ext hw
        subst hw'
        simp [RegFile.get, RegFile.set, hji]
      · simp [RegFile.get, RegFile.set, hw]
  | l w i =>
    cases q with
    | g _ => rfl
    | o _ _ => rfl
    | l w' j =>
      by_cases hw : (w : Nat) = w'
      · have hji : (i : Nat) ≠ j := fun e => h (by rw [Fin.ext hw, Fin.ext e])
        have hw' : w = w' := Fin.ext hw
        subst hw'
        simp [RegFile.get, RegFile.set, hji]
      · simp [RegFile.get, RegFile.set, hw]

/-- What a write through a name does to any cell. -/
theorem RegFile.get_write (r : RegFile) (c : Option PhysReg) (v : Word) (q : PhysReg) :
    (r.write c v).get q = if c = some q then v else r.get q := by
  cases c with
  | none => simp [RegFile.write]
  | some p =>
    by_cases h : q = p
    · subst h; simp [RegFile.write]
    · simp only [RegFile.write, Option.some.injEq, RegFile.get_set_ne r v h, eq_comm (a := p), h, if_false]

/-- What a write through a name does to a read through a name. -/
theorem RegFile.read_write (r : RegFile) (c d : Option PhysReg) (v : Word) :
    (r.write c v).read d = if d = none then 0#32 else if c = d then v else r.read d := by
  cases d with
  | none => rfl
  | some q => simp only [RegFile.read, RegFile.get_write, reduceCtorEq, if_false]

/-- `%g0` names no cell, and every other register names one. -/
theorem physReg_eq_none (w k : Nat) (n : RegNum) : physReg w k n = none ↔ n = 0#5 := by
  unfold physReg
  by_cases h0 : n = 0#5
  · simp [h0]
  · simp only [h0, if_false, iff_false]
    split <;> try split <;> try split
    all_goals simp

@[simp] theorem State.readReg_zero (s : State) : s.readReg 0#5 = 0#32 := by
  simp [State.readReg, State.cellOf, physReg, RegFile.read]

@[simp] theorem State.writeReg_zero (s : State) (v : Word) : s.writeReg 0#5 v = s := by
  simp [State.writeReg, State.cellOf, physReg, RegFile.write]

/-! ## Fields of a special register -/

theorem getLsbD_fieldMask (width i : Nat) : (fieldMask width).getLsbD i = decide (i < 32 ∧ i < width) := by
  unfold fieldMask
  rw [BitVec.getLsbD_ofNat, Nat.testBit_two_pow_sub_one]
  by_cases h1 : i < 32 <;> by_cases h2 : i < width <;> simp [h1, h2]

/-- `set_field` bit by bit (rule R23). -/
theorem getLsbD_setField (r v : Word) (o w i : Nat) :
    (setField r o w v).getLsbD i =
      if o ≤ i ∧ i < o + w ∧ i < 32 then v.getLsbD (i - o) else r.getLsbD i := by
  unfold setField
  simp only [BitVec.getLsbD_or, BitVec.getLsbD_and, BitVec.getLsbD_not, BitVec.getLsbD_shiftLeft, getLsbD_fieldMask]
  by_cases h32 : i < 32
  · by_cases ho : o ≤ i
    · by_cases hw : i < o + w
      · have h1 : i - o < w ∧ i - o < 32 := by omega
        have h3 : ¬ i < o := by omega
        simp [h32, ho, hw, h1, h3]
      · have h1 : ¬ i - o < w := by omega
        simp [h32, hw, h1]
    · have h3 : i < o := by omega
      simp [h32, ho, h3]
  · simp [h32, BitVec.getLsbD_of_ge, Nat.le_of_not_lt h32]

/-- `get_field` bit by bit (rules R6, R23). -/
theorem getLsbD_getField (r : Word) (o w i : Nat) :
    (getField r o w).getLsbD i = (decide (i < 32 ∧ i < w) && r.getLsbD (o + i)) := by
  unfold getField
  by_cases h : i < 32 ∧ i < w <;> simp [getLsbD_fieldMask, h, Bool.and_comm]

/-- Reading a field that lies in the word back after writing it gives the low bits of the value. -/
theorem getField_setField_same (r v : Word) (o w : Nat) (h : o + w ≤ 32) :
    getField (setField r o w v) o w = v &&& fieldMask w := by
  apply BitVec.eq_of_getLsbD_eq
  intro i hi
  simp only [getLsbD_getField, getLsbD_setField, BitVec.getLsbD_and, getLsbD_fieldMask]
  by_cases hw : i < w
  · have h1 : o ≤ o + i ∧ o + i < o + w ∧ o + i < 32 := by omega
    simp [hi, hw, h1]
  · simp [hw]

end Sys2Proof.Machine
end

