-- ==== Sys2Proof/Laws/State.lean ====
section
/-! SUPPORT. What each update of State does to each field: true by rfl, so that no later proof unfolds an update. -/

namespace Sys2Proof.Machine

/-! ### `State.writeReg` -/

@[simp] theorem State.writeReg_cfg (s : State) (n : RegNum) (v : Word) : (s.writeReg n v).cfg = s.cfg := rfl
@[simp] theorem State.writeReg_regs (s : State) (n : RegNum) (v : Word) : (s.writeReg n v).regs = s.regs.write (s.cellOf n) v := rfl
@[simp] theorem State.writeReg_pc (s : State) (n : RegNum) (v : Word) : (s.writeReg n v).pc = s.pc := rfl
@[simp] theorem State.writeReg_npc (s : State) (n : RegNum) (v : Word) : (s.writeReg n v).npc = s.npc := rfl
@[simp] theorem State.writeReg_psr (s : State) (n : RegNum) (v : Word) : (s.writeReg n v).psr = s.psr := rfl
@[simp] theorem State.writeReg_wim (s : State) (n : RegNum) (v : Word) : (s.writeReg n v).wim = s.wim := rfl
@[simp] theorem State.writeReg_tbr (s : State) (n : RegNum) (v : Word) : (s.writeReg n v).tbr = s.tbr := rfl
@[simp] theorem State.writeReg_y (s : State) (n : RegNum) (v : Word) : (s.writeReg n v).y = s.y := rfl
@[simp] theorem State.writeReg_fsr (s : State) (n : RegNum) (v : Word) : (s.writeReg n v).fsr = s.fsr := rfl
@[simp] theorem State.writeReg_branchPending (s : State) (n : RegNum) (v : Word) : (s.writeReg n v).branchPending = s.branchPending := rfl
@[simp] theorem State.writeReg_executeDelaySlot (s : State) (n : RegNum) (v : Word) : (s.writeReg n v).executeDelaySlot = s.executeDelaySlot := rfl
@[simp] theorem State.writeReg_branchTarget (s : State) (n : RegNum) (v : Word) : (s.writeReg n v).branchTarget = s.branchTarget := rfl
@[simp] theorem State.writeReg_wovf (s : State) (n : RegNum) (v : Word) : (s.writeReg n v).wovf = s.wovf := rfl
@[simp] theorem State.writeReg_wunf (s : State) (n : RegNum) (v : Word) : (s.writeReg n v).wunf = s.wunf := rfl
@[simp] theorem State.writeReg_live (s : State) (n : RegNum) (v : Word) : (s.writeReg n v).live = s.live := rfl
@[simp] theorem State.writeReg_mem (s : State) (n : RegNum) (v : Word) : (s.writeReg n v).mem = s.mem := rfl
@[simp] theorem State.writeReg_freeCount (s : State) (n : RegNum) (v : Word) : (s.writeReg n v).freeCount = s.freeCount := rfl

/-! ### `State.writeIcc` -/

@[simp] theorem State.writeIcc_cfg (s : State) (f : Icc) : (s.writeIcc f).cfg = s.cfg := rfl
@[simp] theorem State.writeIcc_regs (s : State) (f : Icc) : (s.writeIcc f).regs = s.regs := rfl
@[simp] theorem State.writeIcc_pc (s : State) (f : Icc) : (s.writeIcc f).pc = s.pc := rfl
@[simp] theorem State.writeIcc_npc (s : State) (f : Icc) : (s.writeIcc f).npc = s.npc := rfl
@[simp] theorem State.writeIcc_psr (s : State) (f : Icc) : (s.writeIcc f).psr = psrIcc.set s.psr (f.bits.setWidth 32) := rfl
@[simp] theorem State.writeIcc_wim (s : State) (f : Icc) : (s.writeIcc f).wim = s.wim := rfl
@[simp] theorem State.writeIcc_tbr (s : State) (f : Icc) : (s.writeIcc f).tbr = s.tbr := rfl
@[simp] theorem State.writeIcc_y (s : State) (f : Icc) : (s.writeIcc f).y = s.y := rfl
@[simp] theorem State.writeIcc_fsr (s : State) (f : Icc) : (s.writeIcc f).fsr = s.fsr := rfl
@[simp] theorem State.writeIcc_branchPending (s : State) (f : Icc) : (s.writeIcc f).branchPending = s.branchPending := rfl
@[simp] theorem State.writeIcc_executeDelaySlot (s : State) (f : Icc) : (s.writeIcc f).executeDelaySlot = s.executeDelaySlot := rfl
@[simp] theorem State.writeIcc_branchTarget (s : State) (f : Icc) : (s.writeIcc f).branchTarget = s.branchTarget := rfl
@[simp] theorem State.writeIcc_wovf (s : State) (f : Icc) : (s.writeIcc f).wovf = s.wovf := rfl
@[simp] theorem State.writeIcc_wunf (s : State) (f : Icc) : (s.writeIcc f).wunf = s.wunf := rfl
@[simp] theorem State.writeIcc_live (s : State) (f : Icc) : (s.writeIcc f).live = s.live := rfl
@[simp] theorem State.writeIcc_mem (s : State) (f : Icc) : (s.writeIcc f).mem = s.mem := rfl
@[simp] theorem State.writeIcc_freeCount (s : State) (f : Icc) : (s.writeIcc f).freeCount = s.freeCount := rfl

/-! ### `State.writeFreeIcc` -/

@[simp] theorem State.writeFreeIcc_cfg (s : State) : s.writeFreeIcc.cfg = s.cfg := rfl
@[simp] theorem State.writeFreeIcc_regs (s : State) : s.writeFreeIcc.regs = s.regs := rfl
@[simp] theorem State.writeFreeIcc_pc (s : State) : s.writeFreeIcc.pc = s.pc := rfl
@[simp] theorem State.writeFreeIcc_npc (s : State) : s.writeFreeIcc.npc = s.npc := rfl
@[simp] theorem State.writeFreeIcc_psr (s : State) : s.writeFreeIcc.psr = psrIcc.set s.psr ((Icc.ofBits (Config.freeIcc s.freeCount)).bits.setWidth 32) := rfl
@[simp] theorem State.writeFreeIcc_wim (s : State) : s.writeFreeIcc.wim = s.wim := rfl
@[simp] theorem State.writeFreeIcc_tbr (s : State) : s.writeFreeIcc.tbr = s.tbr := rfl
@[simp] theorem State.writeFreeIcc_y (s : State) : s.writeFreeIcc.y = s.y := rfl
@[simp] theorem State.writeFreeIcc_fsr (s : State) : s.writeFreeIcc.fsr = s.fsr := rfl
@[simp] theorem State.writeFreeIcc_branchPending (s : State) : s.writeFreeIcc.branchPending = s.branchPending := rfl
@[simp] theorem State.writeFreeIcc_executeDelaySlot (s : State) : s.writeFreeIcc.executeDelaySlot = s.executeDelaySlot := rfl
@[simp] theorem State.writeFreeIcc_branchTarget (s : State) : s.writeFreeIcc.branchTarget = s.branchTarget := rfl
@[simp] theorem State.writeFreeIcc_wovf (s : State) : s.writeFreeIcc.wovf = s.wovf := rfl
@[simp] theorem State.writeFreeIcc_wunf (s : State) : s.writeFreeIcc.wunf = s.wunf := rfl
@[simp] theorem State.writeFreeIcc_live (s : State) : s.writeFreeIcc.live = s.live := rfl
@[simp] theorem State.writeFreeIcc_mem (s : State) : s.writeFreeIcc.mem = s.mem := rfl
@[simp] theorem State.writeFreeIcc_freeCount (s : State) : s.writeFreeIcc.freeCount = s.freeCount + 1 := rfl

/-! ### `State.writePair` -/

@[simp] theorem State.writePair_cfg (s : State) (n : RegNum) (p : BitVec 64) : (s.writePair n p).cfg = s.cfg := rfl
@[simp] theorem State.writePair_regs (s : State) (n : RegNum) (p : BitVec 64) : (s.writePair n p).regs = s.regs.write (s.cellOf n) (pairLow p) := rfl
@[simp] theorem State.writePair_pc (s : State) (n : RegNum) (p : BitVec 64) : (s.writePair n p).pc = s.pc := rfl
@[simp] theorem State.writePair_npc (s : State) (n : RegNum) (p : BitVec 64) : (s.writePair n p).npc = s.npc := rfl
@[simp] theorem State.writePair_psr (s : State) (n : RegNum) (p : BitVec 64) : (s.writePair n p).psr = s.psr := rfl
@[simp] theorem State.writePair_wim (s : State) (n : RegNum) (p : BitVec 64) : (s.writePair n p).wim = s.wim := rfl
@[simp] theorem State.writePair_tbr (s : State) (n : RegNum) (p : BitVec 64) : (s.writePair n p).tbr = s.tbr := rfl
@[simp] theorem State.writePair_y (s : State) (n : RegNum) (p : BitVec 64) : (s.writePair n p).y = pairHigh p := rfl
@[simp] theorem State.writePair_fsr (s : State) (n : RegNum) (p : BitVec 64) : (s.writePair n p).fsr = s.fsr := rfl
@[simp] theorem State.writePair_branchPending (s : State) (n : RegNum) (p : BitVec 64) : (s.writePair n p).branchPending = s.branchPending := rfl
@[simp] theorem State.writePair_executeDelaySlot (s : State) (n : RegNum) (p : BitVec 64) : (s.writePair n p).executeDelaySlot = s.executeDelaySlot := rfl
@[simp] theorem State.writePair_branchTarget (s : State) (n : RegNum) (p : BitVec 64) : (s.writePair n p).branchTarget = s.branchTarget := rfl
@[simp] theorem State.writePair_wovf (s : State) (n : RegNum) (p : BitVec 64) : (s.writePair n p).wovf = s.wovf := rfl
@[simp] theorem State.writePair_wunf (s : State) (n : RegNum) (p : BitVec 64) : (s.writePair n p).wunf = s.wunf := rfl
@[simp] theorem State.writePair_live (s : State) (n : RegNum) (p : BitVec 64) : (s.writePair n p).live = s.live := rfl
@[simp] theorem State.writePair_mem (s : State) (n : RegNum) (p : BitVec 64) : (s.writePair n p).mem = s.mem := rfl
@[simp] theorem State.writePair_freeCount (s : State) (n : RegNum) (p : BitVec 64) : (s.writePair n p).freeCount = s.freeCount := rfl

/-! ### `State.storeBytes` -/

@[simp] theorem State.storeBytes_cfg (s : State) (a : Word) (k : Nat) (v : Word) : (s.storeBytes a k v).cfg = s.cfg := rfl
@[simp] theorem State.storeBytes_regs (s : State) (a : Word) (k : Nat) (v : Word) : (s.storeBytes a k v).regs = s.regs := rfl
@[simp] theorem State.storeBytes_pc (s : State) (a : Word) (k : Nat) (v : Word) : (s.storeBytes a k v).pc = s.pc := rfl
@[simp] theorem State.storeBytes_npc (s : State) (a : Word) (k : Nat) (v : Word) : (s.storeBytes a k v).npc = s.npc := rfl
@[simp] theorem State.storeBytes_psr (s : State) (a : Word) (k : Nat) (v : Word) : (s.storeBytes a k v).psr = s.psr := rfl
@[simp] theorem State.storeBytes_wim (s : State) (a : Word) (k : Nat) (v : Word) : (s.storeBytes a k v).wim = s.wim := rfl
@[simp] theorem State.storeBytes_tbr (s : State) (a : Word) (k : Nat) (v : Word) : (s.storeBytes a k v).tbr = s.tbr := rfl
@[simp] theorem State.storeBytes_y (s : State) (a : Word) (k : Nat) (v : Word) : (s.storeBytes a k v).y = s.y := rfl
@[simp] theorem State.storeBytes_fsr (s : State) (a : Word) (k : Nat) (v : Word) : (s.storeBytes a k v).fsr = s.fsr := rfl
@[simp] theorem State.storeBytes_branchPending (s : State) (a : Word) (k : Nat) (v : Word) : (s.storeBytes a k v).branchPending = s.branchPending := rfl
@[simp] theorem State.storeBytes_executeDelaySlot (s : State) (a : Word) (k : Nat) (v : Word) : (s.storeBytes a k v).executeDelaySlot = s.executeDelaySlot := rfl
@[simp] theorem State.storeBytes_branchTarget (s : State) (a : Word) (k : Nat) (v : Word) : (s.storeBytes a k v).branchTarget = s.branchTarget := rfl
@[simp] theorem State.storeBytes_wovf (s : State) (a : Word) (k : Nat) (v : Word) : (s.storeBytes a k v).wovf = s.wovf := rfl
@[simp] theorem State.storeBytes_wunf (s : State) (a : Word) (k : Nat) (v : Word) : (s.storeBytes a k v).wunf = s.wunf := rfl
@[simp] theorem State.storeBytes_live (s : State) (a : Word) (k : Nat) (v : Word) : (s.storeBytes a k v).live = s.live := rfl
@[simp] theorem State.storeBytes_mem (s : State) (a : Word) (k : Nat) (v : Word) : (s.storeBytes a k v).mem = s.mem.writeBE a.toNat v k := rfl
@[simp] theorem State.storeBytes_freeCount (s : State) (a : Word) (k : Nat) (v : Word) : (s.storeBytes a k v).freeCount = s.freeCount := rfl

/-! ### `State.setLatches` -/

@[simp] theorem State.setLatches_cfg (s : State) (t : Word) (d : Bool) : (s.setLatches t d).cfg = s.cfg := rfl
@[simp] theorem State.setLatches_regs (s : State) (t : Word) (d : Bool) : (s.setLatches t d).regs = s.regs := rfl
@[simp] theorem State.setLatches_pc (s : State) (t : Word) (d : Bool) : (s.setLatches t d).pc = s.pc := rfl
@[simp] theorem State.setLatches_npc (s : State) (t : Word) (d : Bool) : (s.setLatches t d).npc = s.npc := rfl
@[simp] theorem State.setLatches_psr (s : State) (t : Word) (d : Bool) : (s.setLatches t d).psr = s.psr := rfl
@[simp] theorem State.setLatches_wim (s : State) (t : Word) (d : Bool) : (s.setLatches t d).wim = s.wim := rfl
@[simp] theorem State.setLatches_tbr (s : State) (t : Word) (d : Bool) : (s.setLatches t d).tbr = s.tbr := rfl
@[simp] theorem State.setLatches_y (s : State) (t : Word) (d : Bool) : (s.setLatches t d).y = s.y := rfl
@[simp] theorem State.setLatches_fsr (s : State) (t : Word) (d : Bool) : (s.setLatches t d).fsr = s.fsr := rfl
@[simp] theorem State.setLatches_branchPending (s : State) (t : Word) (d : Bool) : (s.setLatches t d).branchPending = true := rfl
@[simp] theorem State.setLatches_executeDelaySlot (s : State) (t : Word) (d : Bool) : (s.setLatches t d).executeDelaySlot = d := rfl
@[simp] theorem State.setLatches_branchTarget (s : State) (t : Word) (d : Bool) : (s.setLatches t d).branchTarget = t := rfl
@[simp] theorem State.setLatches_wovf (s : State) (t : Word) (d : Bool) : (s.setLatches t d).wovf = s.wovf := rfl
@[simp] theorem State.setLatches_wunf (s : State) (t : Word) (d : Bool) : (s.setLatches t d).wunf = s.wunf := rfl
@[simp] theorem State.setLatches_live (s : State) (t : Word) (d : Bool) : (s.setLatches t d).live = s.live := rfl
@[simp] theorem State.setLatches_mem (s : State) (t : Word) (d : Bool) : (s.setLatches t d).mem = s.mem := rfl
@[simp] theorem State.setLatches_freeCount (s : State) (t : Word) (d : Bool) : (s.setLatches t d).freeCount = s.freeCount := rfl

/-! ### `State.beginStep` -/

@[simp] theorem State.beginStep_cfg (s : State) : s.beginStep.cfg = s.cfg := rfl
@[simp] theorem State.beginStep_regs (s : State) : s.beginStep.regs = s.regs := rfl
@[simp] theorem State.beginStep_pc (s : State) : s.beginStep.pc = s.npc := rfl
@[simp] theorem State.beginStep_npc (s : State) : s.beginStep.npc = s.npc := rfl
@[simp] theorem State.beginStep_psr (s : State) : s.beginStep.psr = s.psr := rfl
@[simp] theorem State.beginStep_wim (s : State) : s.beginStep.wim = s.wim := rfl
@[simp] theorem State.beginStep_tbr (s : State) : s.beginStep.tbr = s.tbr := rfl
@[simp] theorem State.beginStep_y (s : State) : s.beginStep.y = s.y := rfl
@[simp] theorem State.beginStep_fsr (s : State) : s.beginStep.fsr = s.fsr := rfl
@[simp] theorem State.beginStep_branchPending (s : State) : s.beginStep.branchPending = s.branchPending := rfl
@[simp] theorem State.beginStep_executeDelaySlot (s : State) : s.beginStep.executeDelaySlot = s.executeDelaySlot := rfl
@[simp] theorem State.beginStep_branchTarget (s : State) : s.beginStep.branchTarget = s.branchTarget := rfl
@[simp] theorem State.beginStep_wovf (s : State) : s.beginStep.wovf = s.wovf := rfl
@[simp] theorem State.beginStep_wunf (s : State) : s.beginStep.wunf = s.wunf := rfl
@[simp] theorem State.beginStep_live (s : State) : s.beginStep.live = true := rfl
@[simp] theorem State.beginStep_mem (s : State) : s.beginStep.mem = s.mem := rfl
@[simp] theorem State.beginStep_freeCount (s : State) : s.beginStep.freeCount = s.freeCount := rfl

/-! ### `State.rotate`: the fields it leaves -/

@[simp] theorem State.rotate_cfg (s : State) (d : Rotation) : (s.rotate d).cfg = s.cfg := rfl
@[simp] theorem State.rotate_regs (s : State) (d : Rotation) : (s.rotate d).regs = s.regs := rfl
@[simp] theorem State.rotate_pc (s : State) (d : Rotation) : (s.rotate d).pc = s.pc := rfl
@[simp] theorem State.rotate_npc (s : State) (d : Rotation) : (s.rotate d).npc = s.npc := rfl
@[simp] theorem State.rotate_tbr (s : State) (d : Rotation) : (s.rotate d).tbr = s.tbr := rfl
@[simp] theorem State.rotate_y (s : State) (d : Rotation) : (s.rotate d).y = s.y := rfl
@[simp] theorem State.rotate_fsr (s : State) (d : Rotation) : (s.rotate d).fsr = s.fsr := rfl
@[simp] theorem State.rotate_branchPending (s : State) (d : Rotation) : (s.rotate d).branchPending = s.branchPending := rfl
@[simp] theorem State.rotate_executeDelaySlot (s : State) (d : Rotation) : (s.rotate d).executeDelaySlot = s.executeDelaySlot := rfl
@[simp] theorem State.rotate_branchTarget (s : State) (d : Rotation) : (s.rotate d).branchTarget = s.branchTarget := rfl
@[simp] theorem State.rotate_live (s : State) (d : Rotation) : (s.rotate d).live = s.live := rfl
@[simp] theorem State.rotate_mem (s : State) (d : Rotation) : (s.rotate d).mem = s.mem := rfl
@[simp] theorem State.rotate_freeCount (s : State) (d : Rotation) : (s.rotate d).freeCount = s.freeCount := rfl
@[simp] theorem State.rotate_psr (s : State) (d : Rotation) :
    (s.rotate d).psr = psrCwp.set s.psr (BitVec.ofNat 32 (d.target s.cfg.windows s.cwp)) := rfl

/-! ### `State.nextNpcPhase` and `State.endStep`: the fields they leave -/

@[simp] theorem State.nextNpcPhase_cfg (s : State) : s.nextNpcPhase.cfg = s.cfg := by
  unfold State.nextNpcPhase; split <;> (try split) <;> rfl
@[simp] theorem State.nextNpcPhase_regs (s : State) : s.nextNpcPhase.regs = s.regs := by
  unfold State.nextNpcPhase; split <;> (try split) <;> rfl
@[simp] theorem State.nextNpcPhase_pc (s : State) : s.nextNpcPhase.pc = s.pc := by
  unfold State.nextNpcPhase; split <;> (try split) <;> rfl
@[simp] theorem State.nextNpcPhase_psr (s : State) : s.nextNpcPhase.psr = s.psr := by
  unfold State.nextNpcPhase; split <;> (try split) <;> rfl
@[simp] theorem State.nextNpcPhase_wim (s : State) : s.nextNpcPhase.wim = s.wim := by
  unfold State.nextNpcPhase; split <;> (try split) <;> rfl
@[simp] theorem State.nextNpcPhase_tbr (s : State) : s.nextNpcPhase.tbr = s.tbr := by
  unfold State.nextNpcPhase; split <;> (try split) <;> rfl
@[simp] theorem State.nextNpcPhase_y (s : State) : s.nextNpcPhase.y = s.y := by
  unfold State.nextNpcPhase; split <;> (try split) <;> rfl
@[simp] theorem State.nextNpcPhase_fsr (s : State) : s.nextNpcPhase.fsr = s.fsr := by
  unfold State.nextNpcPhase; split <;> (try split) <;> rfl
@[simp] theorem State.nextNpcPhase_branchTarget (s : State) : s.nextNpcPhase.branchTarget = s.branchTarget := by
  unfold State.nextNpcPhase; split <;> (try split) <;> rfl
@[simp] theorem State.nextNpcPhase_wovf (s : State) : s.nextNpcPhase.wovf = s.wovf := by
  unfold State.nextNpcPhase; split <;> (try split) <;> rfl
@[simp] theorem State.nextNpcPhase_wunf (s : State) : s.nextNpcPhase.wunf = s.wunf := by
  unfold State.nextNpcPhase; split <;> (try split) <;> rfl
@[simp] theorem State.nextNpcPhase_live (s : State) : s.nextNpcPhase.live = s.live := by
  unfold State.nextNpcPhase; split <;> (try split) <;> rfl
@[simp] theorem State.nextNpcPhase_mem (s : State) : s.nextNpcPhase.mem = s.mem := by
  unfold State.nextNpcPhase; split <;> (try split) <;> rfl
@[simp] theorem State.nextNpcPhase_freeCount (s : State) : s.nextNpcPhase.freeCount = s.freeCount := by
  unfold State.nextNpcPhase; split <;> (try split) <;> rfl
@[simp] theorem State.endStep_cfg (s : State) : s.endStep.cfg = s.cfg := by
  unfold State.endStep; split <;> simp
@[simp] theorem State.endStep_regs (s : State) : s.endStep.regs = s.regs := by
  unfold State.endStep; split <;> simp
@[simp] theorem State.endStep_pc (s : State) : s.endStep.pc = s.pc := by
  unfold State.endStep; split <;> simp
@[simp] theorem State.endStep_psr (s : State) : s.endStep.psr = s.psr := by
  unfold State.endStep; split <;> simp
@[simp] theorem State.endStep_wim (s : State) : s.endStep.wim = s.wim := by
  unfold State.endStep; split <;> simp
@[simp] theorem State.endStep_tbr (s : State) : s.endStep.tbr = s.tbr := by
  unfold State.endStep; split <;> simp
@[simp] theorem State.endStep_y (s : State) : s.endStep.y = s.y := by
  unfold State.endStep; split <;> simp
@[simp] theorem State.endStep_fsr (s : State) : s.endStep.fsr = s.fsr := by
  unfold State.endStep; split <;> simp
@[simp] theorem State.endStep_branchTarget (s : State) : s.endStep.branchTarget = s.branchTarget := by
  unfold State.endStep; split <;> simp
@[simp] theorem State.endStep_wovf (s : State) : s.endStep.wovf = s.wovf := by
  unfold State.endStep; split <;> simp
@[simp] theorem State.endStep_wunf (s : State) : s.endStep.wunf = s.wunf := by
  unfold State.endStep; split <;> simp
@[simp] theorem State.endStep_live (s : State) : s.endStep.live = s.live := by
  unfold State.endStep; split <;> simp
@[simp] theorem State.endStep_mem (s : State) : s.endStep.mem = s.mem := by
  unfold State.endStep; split <;> simp
@[simp] theorem State.endStep_freeCount (s : State) : s.endStep.freeCount = s.freeCount := by
  unfold State.endStep; split <;> simp

/-! ### Reads of a state that differs elsewhere -/

@[simp] theorem State.icc_writeReg (s : State) (n : RegNum) (v : Word) : (s.writeReg n v).icc = s.icc := rfl
@[simp] theorem State.cwp_writeReg (s : State) (n : RegNum) (v : Word) : (s.writeReg n v).cwp = s.cwp := rfl
@[simp] theorem State.cellOf_writeReg (s : State) (n m : RegNum) (v : Word) :
    (s.writeReg n v).cellOf m = s.cellOf m := rfl
@[simp] theorem State.supervisor_writeReg (s : State) (n : RegNum) (v : Word) :
    (s.writeReg n v).supervisor = s.supervisor := rfl
@[simp] theorem State.readReg_beginStep (s : State) (n : RegNum) : s.beginStep.readReg n = s.readReg n := rfl
@[simp] theorem State.operand2_beginStep (s : State) (o : Operand2) :
    s.beginStep.operand2 o = s.operand2 o := by cases o <;> rfl
@[simp] theorem State.icc_beginStep (s : State) : s.beginStep.icc = s.icc := rfl
@[simp] theorem State.readReg_storeBytes (s : State) (a : Word) (k : Nat) (v : Word) (n : RegNum) :
    (s.storeBytes a k v).readReg n = s.readReg n := rfl
@[simp] theorem State.readReg_setLatches (s : State) (t : Word) (d : Bool) (n : RegNum) :
    (s.setLatches t d).readReg n = s.readReg n := rfl

end Sys2Proof.Machine
end

