-- ==== Sys2Proof/Laws/Ops.lean ====
section
/-! SUPPORT. For each shared operation one lemma that says once everything it can do. -/

namespace Sys2Proof.Machine

/-! ## The memory port and the fetch -/

/-- The fault of a transaction, case by case. -/
theorem State.accessFault_cases (s : State) (addr : Word) (n : Nat) (kind : AccessKind) :
    s.accessFault addr n kind =
      if s.cfg.strictAlign = true ∧ 1 < n ∧ addr.toNat % n ≠ 0 then some (.memBadAlignment s.pc addr n)
      else if s.cfg.memSize < addr.toNat + n then some (.memOutOfBounds s.pc addr n kind)
      else none := by
  simp [State.accessFault, State.misaligned, State.outOfBounds, and_assoc]

theorem State.memRead_eq_ok {s : State} {addr : Word} {n : Nat} {v : Word} :
    s.memRead addr n = .ok v ↔ s.accessFault addr n .read = none ∧ v = s.mem.readBE addr.toNat n := by
  unfold State.memRead
  cases s.accessFault addr n .read <;> simp [eq_comm]

theorem State.memRead_eq_error {s : State} {addr : Word} {n : Nat} {f : Fault} :
    s.memRead addr n = .error f ↔ s.accessFault addr n .read = some f := by
  unfold State.memRead
  split <;> simp_all

theorem State.memWrite_eq_ok {s t : State} {addr : Word} {n : Nat} {v : Word} :
    s.memWrite addr n v = .ok t ↔ s.accessFault addr n .write = none ∧ t = s.storeBytes addr n v := by
  unfold State.memWrite
  cases s.accessFault addr n .write <;> simp [eq_comm]

theorem State.memWrite_eq_error {s : State} {addr : Word} {n : Nat} {v : Word} {f : Fault} :
    s.memWrite addr n v = .error f ↔ s.accessFault addr n .write = some f := by
  unfold State.memWrite
  split <;> simp_all

theorem State.fetch_eq_ok {s : State} {w : Word} :
    s.fetch = .ok w ↔ s.pc.toNat + 4 ≤ s.cfg.memSize ∧ w = s.mem.readBE s.pc.toNat 4 := by
  simp only [State.fetch, State.outOfBounds, decide_eq_true_eq]
  split
  · simp; omega
  · simp [eq_comm]; omega

theorem State.fetch_eq_error {s : State} {f : Fault} :
    s.fetch = .error f ↔ s.cfg.memSize < s.pc.toNat + 4 ∧ f = .memOutOfBounds s.pc s.pc 4 .read := by
  simp only [State.fetch, State.outOfBounds, decide_eq_true_eq]
  split <;> simp_all [eq_comm]

/-- The bytes of a big-endian word, each at its place. -/
theorem Memory.readBE_four (m : Memory) (a : Nat) :
    m.readBE a 4 = m.readByte a ++ m.readByte (a + 1) ++ m.readByte (a + 2) ++ m.readByte (a + 3) := by
  generalize h0 : m.readByte a = b0
  generalize h1 : m.readByte (a + 1) = b1
  generalize h2 : m.readByte (a + 2) = b2
  generalize h3 : m.readByte (a + 3) = b3
  simp only [Memory.readBE, h0, h1, h2, h3, Nat.add_assoc, Nat.reduceAdd, Nat.reduceMul]
  apply BitVec.eq_of_getLsbD_eq
  intro i hi
  refine Eq.trans ?_ (BitVec.getLsbD_append (x := b0 ++ b1 ++ b2) (y := b3) (i := i)).symm
  simp only [BitVec.getLsbD_or, BitVec.getLsbD_shiftLeft, BitVec.getLsbD_setWidth, BitVec.getLsbD_append]
  interval_cases i <;> simp

theorem Memory.readBE_two (m : Memory) (a : Nat) :
    m.readBE a 2 = (m.readByte a ++ m.readByte (a + 1)).setWidth 32 := by
  generalize h0 : m.readByte a = b0
  generalize h1 : m.readByte (a + 1) = b1
  simp only [Memory.readBE, h0, h1, Nat.reduceMul]
  apply BitVec.eq_of_getLsbD_eq
  intro i hi
  rw [BitVec.getLsbD_setWidth, show (b0 ++ b1 : BitVec 16).getLsbD i = _ from BitVec.getLsbD_append]
  simp only [BitVec.getLsbD_or, BitVec.getLsbD_shiftLeft, BitVec.getLsbD_setWidth]
  interval_cases i <;> simp

theorem Memory.readBE_one (m : Memory) (a : Nat) : m.readBE a 1 = (m.readByte a).setWidth 32 := by
  simp [Memory.readBE]

/-! ## The common templates: if one answers with a next state, this is it -/

theorem State.alu_next {s t : State} {rd rs1 : RegNum} {src : Operand2} {f : Word → Word → Word} :
    s.alu rd rs1 src f = .next t ↔ t = s.writeReg rd (f (s.readReg rs1) (s.operand2 src)) := by
  simp [State.alu, eq_comm]

theorem State.aluCc_next {s t : State} {rd rs1 : RegNum} {src : Operand2} {f : Word → Word → Word}
    {flags : Word → Word → Icc} :
    s.aluCc rd rs1 src f flags = .next t ↔
      t = (s.writeReg rd (f (s.readReg rs1) (s.operand2 src))).writeIcc
        (flags (s.readReg rs1) (s.operand2 src)) := by
  simp [State.aluCc, eq_comm]

theorem State.multiply_next {s t : State} {rd rs1 : RegNum} {src : Operand2} {f : Word → Word → BitVec 64} :
    s.multiply rd rs1 src f = .next t ↔ t = s.writePair rd (f (s.readReg rs1) (s.operand2 src)) := by
  simp [State.multiply, eq_comm]

theorem State.multiplyCc_next {s t : State} {rd rs1 : RegNum} {src : Operand2} {f : Word → Word → BitVec 64}
    {flags : BitVec 64 → Icc} :
    s.multiplyCc rd rs1 src f flags = .next t ↔
      t = (s.writePair rd (f (s.readReg rs1) (s.operand2 src))).writeIcc
        (flags (f (s.readReg rs1) (s.operand2 src))) := by
  simp [State.multiplyCc, eq_comm]

theorem State.divide_next {s t : State} {rd rs1 : RegNum} {src : Operand2} {f : Word → Word → BitVec 64} :
    s.divide rd rs1 src f = .next t ↔
      s.operand2 src ≠ 0#32 ∧ t = s.writePair rd (f (s.readReg rs1) (s.operand2 src)) := by
  simp only [State.divide, State.raiseDivisionByZero]
  split <;> simp_all [eq_comm]

theorem State.divideCc_next {s t : State} {rd rs1 : RegNum} {src : Operand2} {f : Word → Word → BitVec 64} :
    s.divideCc rd rs1 src f = .next t ↔
      s.operand2 src ≠ 0#32 ∧ t = (s.writePair rd (f (s.readReg rs1) (s.operand2 src))).writeFreeIcc := by
  simp only [State.divideCc, State.raiseDivisionByZero]
  split <;> simp_all [eq_comm]

theorem State.branch_next {s t : State} {cond : BitVec 4} {a : BitVec 1} {disp22 : BitVec 22} :
    s.branch cond a disp22 = .next t ↔
      (branchPred s.icc cond = true ∧ t = s.setLatches (s.pc + branchOffset disp22) true) ∨
      (branchPred s.icc cond = false ∧ a = 1#1 ∧ t = { s with pc := s.pc + 4#32 }) ∨
      (branchPred s.icc cond = false ∧ a ≠ 1#1 ∧ t = s) := by
  unfold State.branch
  by_cases h : branchPred s.icc cond = true
  · simp [h, eq_comm]
  · by_cases ha : a = 1#1 <;> simp [h, ha, eq_comm]

theorem State.readSpecial_next {s t : State} {rd : RegNum} {v : Word} :
    s.readSpecial rd v = .next t ↔
      ((s.cfg.rdPrivCheck = false ∨ s.supervisor = true) ∧ t = s.writeReg rd v) ∨
      (s.cfg.rdPrivCheck = true ∧ s.supervisor = false ∧ t = s) := by
  unfold State.readSpecial
  by_cases h1 : s.cfg.rdPrivCheck = true <;> by_cases h2 : s.supervisor = true <;> simp [h1, h2, eq_comm]

theorem State.whenSupervisor_next {s t u : State} :
    s.whenSupervisor t = .next u ↔ (s.supervisor = true ∧ u = t) ∨ (s.supervisor = false ∧ u = s) := by
  unfold State.whenSupervisor
  by_cases h : s.supervisor = true <;> simp [h, eq_comm]

theorem State.load_next {s t : State} {rd rs1 : RegNum} {src : Operand2} {n : Nat} {ext : Word → Word} :
    s.load rd rs1 src n ext = .next t ↔
      s.accessFault (s.effAddr rs1 src) n .read = none ∧
      t = s.writeReg rd (ext (s.mem.readBE (s.effAddr rs1 src).toNat n)) := by
  simp only [State.load, State.memRead]
  cases s.accessFault (s.effAddr rs1 src) n .read <;> simp [eq_comm]

theorem State.store_next {s t : State} {rd rs1 : RegNum} {src : Operand2} {n : Nat} :
    s.store rd rs1 src n = .next t ↔
      s.accessFault (s.effAddr rs1 src) n .write = none ∧
      t = s.storeBytes (s.effAddr rs1 src) n (s.readReg rd) := by
  simp only [State.store, State.memWrite]
  cases s.accessFault (s.effAddr rs1 src) n .write <;> simp [eq_comm]

theorem State.rotateAdd_next {s t : State} {rd rs1 : RegNum} {src : Operand2} {d : Rotation} :
    s.rotateAdd rd rs1 src d = .next t ↔ t = (s.rotate d).writeReg rd (s.readReg rs1 + s.operand2 src) := by
  simp [State.rotateAdd, eq_comm]

/-! ## The step -/

/-- Everything a step that completes has done. -/
theorem step_next {s t : State} :
    step s = .next t ↔
      s.npc.toNat + 4 ≤ s.cfg.memSize ∧
      ∃ u, exec (decodeWord (s.mem.readBE s.npc.toNat 4)) s.beginStep = .next u ∧ t = u.endStep := by
  have hb : s.beginStep.mem.readBE s.beginStep.pc.toNat 4 = s.mem.readBE s.npc.toNat 4 := rfl
  unfold step
  cases h : s.beginStep.fetch with
  | error f =>
    have hlt : s.cfg.memSize < s.npc.toNat + 4 := (State.fetch_eq_error.1 h).1
    have hn : ¬ s.npc.toNat + 4 ≤ s.cfg.memSize := by omega
    simp [hn]
  | ok w =>
    obtain ⟨hle, rfl⟩ := State.fetch_eq_ok.1 h
    have hle' : s.npc.toNat + 4 ≤ s.cfg.memSize := hle
    simp only [hb, hle', true_and]
    cases exec (decodeWord (s.mem.readBE s.npc.toNat 4)) s.beginStep <;> simp [eq_comm]

/-- Everything a step that faults has met: the fetch, or the instruction. -/
theorem step_fault {s : State} {f : Fault} :
    step s = .fault f ↔
      (s.cfg.memSize < s.npc.toNat + 4 ∧ f = .memOutOfBounds s.npc s.npc 4 .read) ∨
      (s.npc.toNat + 4 ≤ s.cfg.memSize ∧
        exec (decodeWord (s.mem.readBE s.npc.toNat 4)) s.beginStep = .fault f) := by
  have hb : s.beginStep.mem.readBE s.beginStep.pc.toNat 4 = s.mem.readBE s.npc.toNat 4 := rfl
  unfold step
  cases h : s.beginStep.fetch with
  | error g =>
    obtain ⟨hlt, rfl⟩ := State.fetch_eq_error.1 h
    have hlt' : s.cfg.memSize < s.npc.toNat + 4 := hlt
    have hn : ¬ s.npc.toNat + 4 ≤ s.cfg.memSize := by omega
    have hpc : s.beginStep.pc = s.npc := rfl
    simp [hlt', hn, eq_comm]
  | ok w =>
    obtain ⟨hle, rfl⟩ := State.fetch_eq_ok.1 h
    have hle' : s.npc.toNat + 4 ≤ s.cfg.memSize := hle
    have hn : ¬ s.cfg.memSize < s.npc.toNat + 4 := by omega
    simp only [hb, hle', hn, true_and, false_and, false_or]
    cases exec (decodeWord (s.mem.readBE s.npc.toNat 4)) s.beginStep <;> simp

end Sys2Proof.Machine
end

