-- ==== Sys2Proof/Tests/Slice0.lean ====
section
/-! SUPPORT. Tests of the model against words and vectors of spec/, and a witness for every statement that has hypotheses.
Every expected value is the spec's: the examples of its instruction rules and 95_test_vectors.md. -/

namespace Sys2Proof.Tests

open Sys2Proof.Machine Sys2Proof.Claims

/-! ## WellFormed -/

/-- `sethi 0, %g0` is ill-formed: its word is `NOP` (rule R82). -/
theorem test_wellFormed_refuses_nop_twin : (Instr.sethi 0#5 0#22).wellFormed = false := by decide
/-- `unimp` with every field zero is ill-formed: its word is `HALT0` (rule R81). -/
theorem test_wellFormed_refuses_halt_twin : (Instr.unimp 0#5 0#22).wellFormed = false := by decide
/-- Their neighbours are well-formed. -/
theorem test_wellFormed_accepts :
    (Instr.sethi 0#5 1#22).wellFormed = true ∧ (Instr.sethi 1#5 0#22).wellFormed = true ∧
    (Instr.unimp 0#5 1#22).wellFormed = true ∧ (Instr.unimp 1#5 0#22).wellFormed = true ∧
    Instr.halt0.wellFormed = true ∧ Instr.nop.wellFormed = true := by decide

/-! ## Decoding: one word for every constructor, put together from the fields of 30_encoding.md

Format 3 words of `op = 2` have `rd = 3`, `rs1 = 1`, `rs2 = 2`, those of `op = 3` have `rd = 4`; so most are the words that
the instruction rules give as examples. -/

theorem test_decode_format2 :
    decodeWord 0x00000000#32 = .halt0 ∧
    decodeWord 0x00000001#32 = .unimp 0#5 1#22 ∧
    decodeWord 0x12415555#32 = .reservedOp2_1 9#5 0x15555#22 ∧
    decodeWord 0x12C15555#32 = .reservedOp2_3 9#5 0x15555#22 ∧
    decodeWord 0x13415555#32 = .reservedOp2_5 9#5 0x15555#22 ∧
    decodeWord 0x01000000#32 = .nop ∧
    decodeWord 0x03012345#32 = .sethi 1#5 0x12345#22 ∧
    decodeWord 0x31800004#32 = .fbfcc 1#1 8#4 4#22 ∧
    decodeWord 0x31C00004#32 = .cbccc 1#1 8#4 4#22 ∧
    decodeWord 0x7FFFFFFC#32 = .call 0x3FFFFFFC#30 := by
  and_intros <;> rfl

theorem test_decode_branches :
    decodeWord 0x00800003#32 = .bn 0#1 3#22 ∧
    decodeWord 0x02800003#32 = .be 0#1 3#22 ∧
    decodeWord 0x04800003#32 = .ble 0#1 3#22 ∧
    decodeWord 0x06800003#32 = .bl 0#1 3#22 ∧
    decodeWord 0x08800003#32 = .bleu 0#1 3#22 ∧
    decodeWord 0x0A800003#32 = .bcs 0#1 3#22 ∧
    decodeWord 0x0C800003#32 = .bneg 0#1 3#22 ∧
    decodeWord 0x0E800003#32 = .bvs 0#1 3#22 ∧
    decodeWord 0x10800003#32 = .ba 0#1 3#22 ∧
    decodeWord 0x12800003#32 = .bne 0#1 3#22 ∧
    decodeWord 0x14800003#32 = .bg 0#1 3#22 ∧
    decodeWord 0x16800003#32 = .bge 0#1 3#22 ∧
    decodeWord 0x18800003#32 = .bgu 0#1 3#22 ∧
    decodeWord 0x1A800003#32 = .bcc 0#1 3#22 ∧
    decodeWord 0x1C800003#32 = .bpos 0#1 3#22 ∧
    decodeWord 0x1E800003#32 = .bvc 0#1 3#22 := by
  and_intros <;> rfl

theorem test_decode_arith_0x :
    decodeWord 0x86004002#32 = .add 3#5 1#5 (.reg 0#8 2#5) ∧
    decodeWord 0x86084002#32 = .and 3#5 1#5 (.reg 0#8 2#5) ∧
    decodeWord 0x86104002#32 = .or 3#5 1#5 (.reg 0#8 2#5) ∧
    decodeWord 0x86184002#32 = .xor 3#5 1#5 (.reg 0#8 2#5) ∧
    decodeWord 0x86204002#32 = .sub 3#5 1#5 (.reg 0#8 2#5) ∧
    decodeWord 0x86284002#32 = .andn 3#5 1#5 (.reg 0#8 2#5) ∧
    decodeWord 0x86304002#32 = .orn 3#5 1#5 (.reg 0#8 2#5) ∧
    decodeWord 0x86384002#32 = .xnor 3#5 1#5 (.reg 0#8 2#5) ∧
    decodeWord 0x86404002#32 = .addx 3#5 1#5 (.reg 0#8 2#5) ∧
    decodeWord 0xA2492345#32 = .reservedArith09 17#5 0x12345#19 ∧
    decodeWord 0x86504002#32 = .umul 3#5 1#5 (.reg 0#8 2#5) ∧
    decodeWord 0x86584002#32 = .smul 3#5 1#5 (.reg 0#8 2#5) ∧
    decodeWord 0x86604002#32 = .subx 3#5 1#5 (.reg 0#8 2#5) ∧
    decodeWord 0xA2692345#32 = .reservedArith0D 17#5 0x12345#19 ∧
    decodeWord 0x86704002#32 = .udiv 3#5 1#5 (.reg 0#8 2#5) ∧
    decodeWord 0x86784002#32 = .sdiv 3#5 1#5 (.reg 0#8 2#5) := by
  and_intros <;> rfl

theorem test_decode_arith_1x :
    decodeWord 0x86804002#32 = .addcc 3#5 1#5 (.reg 0#8 2#5) ∧
    decodeWord 0x86884002#32 = .andcc 3#5 1#5 (.reg 0#8 2#5) ∧
    decodeWord 0x86904002#32 = .orcc 3#5 1#5 (.reg 0#8 2#5) ∧
    decodeWord 0x86984002#32 = .xorcc 3#5 1#5 (.reg 0#8 2#5) ∧
    decodeWord 0x86A04002#32 = .subcc 3#5 1#5 (.reg 0#8 2#5) ∧
    decodeWord 0x86A84002#32 = .andncc 3#5 1#5 (.reg 0#8 2#5) ∧
    decodeWord 0x86B04002#32 = .orncc 3#5 1#5 (.reg 0#8 2#5) ∧
    decodeWord 0x86B84002#32 = .xnorcc 3#5 1#5 (.reg 0#8 2#5) ∧
    decodeWord 0x86C04002#32 = .addxcc 3#5 1#5 (.reg 0#8 2#5) ∧
    decodeWord 0xA2C92345#32 = .reservedArith19 17#5 0x12345#19 ∧
    decodeWord 0x86D04002#32 = .umulcc 3#5 1#5 (.reg 0#8 2#5) ∧
    decodeWord 0x86D84002#32 = .smulcc 3#5 1#5 (.reg 0#8 2#5) ∧
    decodeWord 0x86E04002#32 = .subxcc 3#5 1#5 (.reg 0#8 2#5) ∧
    decodeWord 0xA2E92345#32 = .reservedArith1D 17#5 0x12345#19 ∧
    decodeWord 0x86F04002#32 = .udivcc 3#5 1#5 (.reg 0#8 2#5) ∧
    decodeWord 0x86F84002#32 = .sdivcc 3#5 1#5 (.reg 0#8 2#5) := by
  and_intros <;> rfl

theorem test_decode_arith_2x :
    decodeWord 0x87004002#32 = .taddcc 3#5 1#5 (.reg 0#8 2#5) ∧
    decodeWord 0x87084002#32 = .tsubcc 3#5 1#5 (.reg 0#8 2#5) ∧
    decodeWord 0x87104002#32 = .taddcctv 3#5 1#5 (.reg 0#8 2#5) ∧
    decodeWord 0x87184002#32 = .tsubcctv 3#5 1#5 (.reg 0#8 2#5) ∧
    decodeWord 0x87204002#32 = .mulscc 3#5 1#5 (.reg 0#8 2#5) ∧
    decodeWord 0x87284002#32 = .sll 3#5 1#5 (.reg 0#8 2#5) ∧
    decodeWord 0x87304002#32 = .srl 3#5 1#5 (.reg 0#8 2#5) ∧
    decodeWord 0x87384002#32 = .sra 3#5 1#5 (.reg 0#8 2#5) ∧
    decodeWord 0x87404002#32 = .rdy 3#5 1#5 (.reg 0#8 2#5) ∧
    decodeWord 0x87484002#32 = .rdpsr 3#5 1#5 (.reg 0#8 2#5) ∧
    decodeWord 0x87504002#32 = .rdwim 3#5 1#5 (.reg 0#8 2#5) ∧
    decodeWord 0x87584002#32 = .rdtbr 3#5 1#5 (.reg 0#8 2#5) ∧
    decodeWord 0xA3612345#32 = .reservedArith2C 17#5 0x12345#19 ∧
    decodeWord 0xA3692345#32 = .reservedArith2D 17#5 0x12345#19 ∧
    decodeWord 0xA3712345#32 = .reservedArith2E 17#5 0x12345#19 ∧
    decodeWord 0xA3792345#32 = .reservedArith2F 17#5 0x12345#19 := by
  and_intros <;> rfl

theorem test_decode_arith_3x :
    decodeWord 0x87804002#32 = .wry 3#5 1#5 (.reg 0#8 2#5) ∧
    decodeWord 0x87884002#32 = .wrpsr 3#5 1#5 (.reg 0#8 2#5) ∧
    decodeWord 0x87904002#32 = .wrwim 3#5 1#5 (.reg 0#8 2#5) ∧
    decodeWord 0x87984002#32 = .wrtbr 3#5 1#5 (.reg 0#8 2#5) ∧
    decodeWord 0x87A04822#32 = .fpop1 3#5 1#5 0x41#9 2#5 ∧
    decodeWord 0x87A84822#32 = .fpop2 3#5 1#5 0x41#9 2#5 ∧
    decodeWord 0x87B04822#32 = .cpop1 3#5 1#5 0x41#9 2#5 ∧
    decodeWord 0x87B84822#32 = .cpop2 3#5 1#5 0x41#9 2#5 ∧
    decodeWord 0x81C7E008#32 = .jmpl 0#5 31#5 (.imm 8#13) ∧
    decodeWord 0x87C84002#32 = .rett 3#5 1#5 (.reg 0#8 2#5) ∧
    decodeWord 0x91D02000#32 = .ticc 0#1 8#4 0#5 (.imm 0#13) ∧
    decodeWord 0x87D84002#32 = .flush 3#5 1#5 (.reg 0#8 2#5) ∧
    decodeWord 0x9DE3BFA0#32 = .save 14#5 14#5 (.imm 0x1FA0#13) ∧
    decodeWord 0x87E84002#32 = .restore 3#5 1#5 (.reg 0#8 2#5) ∧
    decodeWord 0xA3F12345#32 = .reservedArith3E 17#5 0x12345#19 ∧
    decodeWord 0xA3F92345#32 = .reservedArith3F 17#5 0x12345#19 := by
  and_intros <;> rfl

theorem test_decode_mem_0x :
    decodeWord 0xC8004002#32 = .ld 4#5 1#5 (.reg 0#8 2#5) ∧
    decodeWord 0xC8084002#32 = .ldub 4#5 1#5 (.reg 0#8 2#5) ∧
    decodeWord 0xC8104002#32 = .lduh 4#5 1#5 (.reg 0#8 2#5) ∧
    decodeWord 0xC8184002#32 = .ldd 4#5 1#5 (.reg 0#8 2#5) ∧
    decodeWord 0xC8204002#32 = .st 4#5 1#5 (.reg 0#8 2#5) ∧
    decodeWord 0xC8284002#32 = .stb 4#5 1#5 (.reg 0#8 2#5) ∧
    decodeWord 0xC8304002#32 = .sth 4#5 1#5 (.reg 0#8 2#5) ∧
    decodeWord 0xC8384002#32 = .std 4#5 1#5 (.reg 0#8 2#5) ∧
    decodeWord 0xE2412345#32 = .reservedMem08 17#5 0x12345#19 ∧
    decodeWord 0xC8484002#32 = .ldsb 4#5 1#5 (.reg 0#8 2#5) ∧
    decodeWord 0xC8504002#32 = .ldsh 4#5 1#5 (.reg 0#8 2#5) ∧
    decodeWord 0xE2592345#32 = .reservedMem0B 17#5 0x12345#19 ∧
    decodeWord 0xE2612345#32 = .reservedMem0C 17#5 0x12345#19 ∧
    decodeWord 0xC8684002#32 = .ldstub 4#5 1#5 (.reg 0#8 2#5) ∧
    decodeWord 0xE2712345#32 = .reservedMem0E 17#5 0x12345#19 ∧
    decodeWord 0xC8784002#32 = .swap 4#5 1#5 (.reg 0#8 2#5) := by
  and_intros <;> rfl

theorem test_decode_mem_1x :
    decodeWord 0xC4804160#32 = .lda 2#5 1#5 (.reg 0x0B#8 0#5) ∧
    decodeWord 0xC8884002#32 = .lduba 4#5 1#5 (.reg 0#8 2#5) ∧
    decodeWord 0xC8904002#32 = .lduha 4#5 1#5 (.reg 0#8 2#5) ∧
    decodeWord 0xC8984002#32 = .ldda 4#5 1#5 (.reg 0#8 2#5) ∧
    decodeWord 0xC8A04002#32 = .sta 4#5 1#5 (.reg 0#8 2#5) ∧
    decodeWord 0xC8A84002#32 = .stba 4#5 1#5 (.reg 0#8 2#5) ∧
    decodeWord 0xC8B04002#32 = .stha 4#5 1#5 (.reg 0#8 2#5) ∧
    decodeWord 0xC8B84002#32 = .stda 4#5 1#5 (.reg 0#8 2#5) ∧
    decodeWord 0xE2C12345#32 = .reservedMem18 17#5 0x12345#19 ∧
    decodeWord 0xC8C84002#32 = .ldsba 4#5 1#5 (.reg 0#8 2#5) ∧
    decodeWord 0xC8D04002#32 = .ldsha 4#5 1#5 (.reg 0#8 2#5) ∧
    decodeWord 0xE2D92345#32 = .reservedMem1B 17#5 0x12345#19 ∧
    decodeWord 0xE2E12345#32 = .reservedMem1C 17#5 0x12345#19 ∧
    decodeWord 0xC8E84002#32 = .ldstuba 4#5 1#5 (.reg 0#8 2#5) ∧
    decodeWord 0xE2F12345#32 = .reservedMem1E 17#5 0x12345#19 ∧
    decodeWord 0xC8F84002#32 = .swapa 4#5 1#5 (.reg 0#8 2#5) := by
  and_intros <;> rfl

theorem test_decode_mem_2x :
    decodeWord 0xC5006000#32 = .ldf 2#5 1#5 (.imm 0#13) ∧
    decodeWord 0xC9084002#32 = .ldfsr 4#5 1#5 (.reg 0#8 2#5) ∧
    decodeWord 0xE3112345#32 = .reservedMem22 17#5 0x12345#19 ∧
    decodeWord 0xC9184002#32 = .lddf 4#5 1#5 (.reg 0#8 2#5) ∧
    decodeWord 0xC9204002#32 = .stf 4#5 1#5 (.reg 0#8 2#5) ∧
    decodeWord 0xC9284002#32 = .stfsr 4#5 1#5 (.reg 0#8 2#5) ∧
    decodeWord 0xC9304002#32 = .stdfq 4#5 1#5 (.reg 0#8 2#5) ∧
    decodeWord 0xC9384002#32 = .stdf 4#5 1#5 (.reg 0#8 2#5) ∧
    decodeWord 0xE3412345#32 = .reservedMem28 17#5 0x12345#19 ∧
    decodeWord 0xE3492345#32 = .reservedMem29 17#5 0x12345#19 ∧
    decodeWord 0xE3512345#32 = .reservedMem2A 17#5 0x12345#19 ∧
    decodeWord 0xE3592345#32 = .reservedMem2B 17#5 0x12345#19 ∧
    decodeWord 0xE3612345#32 = .reservedMem2C 17#5 0x12345#19 ∧
    decodeWord 0xE3692345#32 = .reservedMem2D 17#5 0x12345#19 ∧
    decodeWord 0xE3712345#32 = .reservedMem2E 17#5 0x12345#19 ∧
    decodeWord 0xE3792345#32 = .reservedMem2F 17#5 0x12345#19 := by
  and_intros <;> rfl

theorem test_decode_mem_3x :
    decodeWord 0xC9804002#32 = .ldc 4#5 1#5 (.reg 0#8 2#5) ∧
    decodeWord 0xC9884002#32 = .ldcsr 4#5 1#5 (.reg 0#8 2#5) ∧
    decodeWord 0xE3912345#32 = .reservedMem32 17#5 0x12345#19 ∧
    decodeWord 0xC9984002#32 = .lddc 4#5 1#5 (.reg 0#8 2#5) ∧
    decodeWord 0xC9A04002#32 = .stc 4#5 1#5 (.reg 0#8 2#5) ∧
    decodeWord 0xC9A84002#32 = .stcsr 4#5 1#5 (.reg 0#8 2#5) ∧
    decodeWord 0xC9B04002#32 = .stdcq 4#5 1#5 (.reg 0#8 2#5) ∧
    decodeWord 0xC9B84002#32 = .stdc 4#5 1#5 (.reg 0#8 2#5) ∧
    decodeWord 0xE3C12345#32 = .reservedMem38 17#5 0x12345#19 ∧
    decodeWord 0xE3C92345#32 = .reservedMem39 17#5 0x12345#19 ∧
    decodeWord 0xE3D12345#32 = .reservedMem3A 17#5 0x12345#19 ∧
    decodeWord 0xE3D92345#32 = .reservedMem3B 17#5 0x12345#19 ∧
    decodeWord 0xE3E12345#32 = .reservedMem3C 17#5 0x12345#19 ∧
    decodeWord 0xE3E92345#32 = .reservedMem3D 17#5 0x12345#19 ∧
    decodeWord 0xE3F12345#32 = .reservedMem3E 17#5 0x12345#19 ∧
    decodeWord 0xE3F92345#32 = .reservedMem3F 17#5 0x12345#19 := by
  and_intros <;> rfl

/-- The host's view of the decoder: bit 0 of the table is the least significant bit of the word. -/
theorem test_decodeTableWord :
    decodeTableWord 32 0x81C7E008 = some (.jmpl 0#5 31#5 (.imm 8#13)) ∧ decodeTableWord 32 0 = some .halt0 := by
  and_intros <;> rfl
/-- Fewer than four bytes hold no instruction. -/
theorem test_decode_truncated : decode [0x81#8, 0xC7#8, 0xE0#8] = .error .truncated := by rfl
/-- `JMPL`'s word in the order memory holds its bytes, and the byte after it. -/
theorem test_decode_bytes :
    decode [0x81#8, 0xC7#8, 0xE0#8, 0x08#8, 0xFF#8] = .ok (.jmpl 0#5 31#5 (.imm 8#13), [0xFF#8]) := by rfl

/-! ## Small states -/

/-- A machine of 4 windows and 0x1000 bytes, just reset, as in 95_test_vectors.md. -/
def base : State := { State.reset with cfg := { Config.default with memSize := 0x1000 } }

/-- The state `s` with the instruction word `w` where the next step fetches. -/
def State.at (s : State) (w : Word) : State := s.withFetchWord 32 w.toNat

/-- `base` with the word `w` at 0, `%g1 = a`, `%g2 = b` and the given `PSR`. -/
def start (w a b : Word) (psr : Word := 0x80#32) : State :=
  { State.at base w with psr := psr, regs := (RegFile.reset.set (.g 1) a).set (.g 2) b }

/-- `f` of the state after one step. -/
def after {α : Type} (s : State) (f : State → α) : Option α :=
  match step s with
  | .next t => some (f t)
  | _ => none

/-- The fault of one step. -/
def faultOf (s : State) : Option Fault :=
  match step s with
  | .fault f => some f
  | _ => none

/-- `%g3` and `N Z V C` after `op %g1, %g2, %g3`. -/
def alu (w a b : Word) (psr : Word := 0x80#32) : Option (Word × BitVec 4) :=
  after (start w a b psr) fun t => (t.readReg 3#5, t.icc.bits)

/-- `%g3` and `Y` after `op %g1, %g2, %g3`. -/
def muldiv (w a b : Word) : Option (Word × Word) := after (start w a b) fun t => (t.readReg 3#5, t.y)

/-- The control state after the word `w` runs at 0. -/
def ctl (w : Word) (psr : Word := 0x80#32) : Option (Word × Word × Bool) :=
  after (start w 0#32 0#32 psr) fun t => (t.pc, t.npc, t.branchPending)

/-! ## One step of each instruction, from 95_test_vectors.md sections 2.1 to 2.11 and the examples of the rules -/

theorem test_add : alu 0x86004002#32 0xFFFFFFFF#32 0x00000001#32 = some (0x00000000#32, 0b0000#4) := by decide
theorem test_addcc_overflow :
    alu 0x86804002#32 0x7FFFFFFF#32 0x00000001#32 = some (0x80000000#32, 0b1010#4) := by decide
theorem test_addcc_carry : alu 0x86804002#32 0x80000000#32 0xFFFFFFFF#32 = some (0x7FFFFFFF#32, 0b0011#4) := by decide
theorem test_addx :
    alu 0x86404002#32 0xFFFFFFFF#32 0x00000000#32 0x00100080#32 = some (0x00000000#32, 0b0001#4) := by decide
theorem test_addxcc :
    alu 0x86C04002#32 0xFFFFFFFF#32 0xFFFFFFFF#32 0x00100080#32 = some (0xFFFFFFFF#32, 0b1001#4) := by decide
theorem test_sub : alu 0x86204002#32 0x00000005#32 0x00000007#32 = some (0xFFFFFFFE#32, 0b0000#4) := by decide
theorem test_subx :
    alu 0x86604002#32 0x00000000#32 0x00000000#32 0x00100080#32 = some (0xFFFFFFFF#32, 0b0001#4) := by decide
theorem test_subcc_borrow : alu 0x86A04002#32 0x7FFFFFFF#32 0xFFFFFFFF#32 = some (0x80000000#32, 0b1011#4) := by decide
theorem test_subcc_no_borrow :
    alu 0x86A04002#32 0x0000000A#32 0x00000003#32 = some (0x00000007#32, 0b0000#4) := by decide
theorem test_subxcc :
    alu 0x86E04002#32 0x00000000#32 0xFFFFFFFF#32 0x00100080#32 = some (0x00000000#32, 0b0101#4) := by decide
theorem test_and :
    alu 0x86084002#32 0xFF00FF00#32 0x0FF00FF0#32 0x00100080#32 = some (0x0F000F00#32, 0b0001#4) := by decide
theorem test_andn :
    alu 0x86284002#32 0xFF00FF00#32 0x0FF00FF0#32 0x00100080#32 = some (0xF000F000#32, 0b0001#4) := by decide
theorem test_or :
    alu 0x86104002#32 0xFF00FF00#32 0x0FF00FF0#32 0x00100080#32 = some (0xFFF0FFF0#32, 0b0001#4) := by decide
theorem test_orn :
    alu 0x86304002#32 0xFF00FF00#32 0x0FF00FF0#32 0x00100080#32 = some (0xFF0FFF0F#32, 0b0001#4) := by decide
theorem test_xor :
    alu 0x86184002#32 0xFF00FF00#32 0x0FF00FF0#32 0x00100080#32 = some (0xF0F0F0F0#32, 0b0001#4) := by decide
theorem test_xnor :
    alu 0x86384002#32 0xFF00FF00#32 0x0FF00FF0#32 0x00100080#32 = some (0x0F0F0F0F#32, 0b0001#4) := by decide
theorem test_andcc :
    alu 0x86884002#32 0xFF00FF00#32 0x0FF00FF0#32 0x00100080#32 = some (0x0F000F00#32, 0b0000#4) := by decide
theorem test_andncc :
    alu 0x86A84002#32 0xFF00FF00#32 0x0FF00FF0#32 0x00100080#32 = some (0xF000F000#32, 0b1000#4) := by decide
theorem test_orcc :
    alu 0x86904002#32 0xFF00FF00#32 0x0FF00FF0#32 0x00100080#32 = some (0xFFF0FFF0#32, 0b1000#4) := by decide
theorem test_orncc :
    alu 0x86B04002#32 0xFF00FF00#32 0x0FF00FF0#32 0x00100080#32 = some (0xFF0FFF0F#32, 0b1000#4) := by decide
theorem test_xorcc :
    alu 0x86984002#32 0xFF00FF00#32 0x0FF00FF0#32 0x00100080#32 = some (0xF0F0F0F0#32, 0b1000#4) := by decide
theorem test_xnorcc :
    alu 0x86B84002#32 0xFF00FF00#32 0x0FF00FF0#32 0x00100080#32 = some (0x0F0F0F0F#32, 0b0000#4) := by decide
theorem test_and_immediate : alu 0x86086FFF#32 0x12345678#32 0x00000000#32 = some (0x00000678#32, 0b0000#4) := by decide
theorem test_xor_sign_extends :
    alu 0x86187FFF#32 0x12345678#32 0x00000000#32 = some (0xEDCBA987#32, 0b0000#4) := by decide
theorem test_sll :
    alu 0x87284002#32 0x80000001#32 0xFFFFFFE4#32 0x00100080#32 = some (0x00000010#32, 0b0001#4) := by decide
theorem test_srl :
    alu 0x87304002#32 0x80000001#32 0xFFFFFFE4#32 0x00100080#32 = some (0x08000000#32, 0b0001#4) := by decide
theorem test_sra :
    alu 0x87384002#32 0x80000001#32 0xFFFFFFE4#32 0x00100080#32 = some (0xF8000000#32, 0b0001#4) := by decide
theorem test_sra_full : alu 0x87384002#32 0x80000001#32 0x0000001F#32 = some (0xFFFFFFFF#32, 0b0000#4) := by decide
theorem test_umul : muldiv 0x86504002#32 0xFFFFFFFF#32 0xFFFFFFFF#32 = some (0x00000001#32, 0xFFFFFFFE#32) := by decide
theorem test_smul : muldiv 0x86584002#32 0xFFFFFFFC#32 0x00000003#32 = some (0xFFFFFFF4#32, 0xFFFFFFFF#32) := by decide
theorem test_umulcc : alu 0x86D04002#32 0xFFFFFFFF#32 0x00000001#32 = some (0xFFFFFFFF#32, 0b0000#4) := by decide
theorem test_smulcc : alu 0x86D84002#32 0xFFFFFFFF#32 0x00000001#32 = some (0xFFFFFFFF#32, 0b1010#4) := by decide
theorem test_udiv : muldiv 0x86704002#32 0xFFFFFFFF#32 0x80000001#32 = some (0x00000001#32, 0x7FFFFFFE#32) := by decide
theorem test_udivcc :
    muldiv 0x86F04002#32 0x00000064#32 0x00000007#32 = some (0x0000000E#32, 0x00000002#32) := by decide
theorem test_sdiv : muldiv 0x86784002#32 0xFFFFFFF9#32 0x00000002#32 = some (0xFFFFFFFD#32, 0xFFFFFFFE#32) := by decide
theorem test_sdiv_zero_quotient :
    muldiv 0x86784002#32 0x00000001#32 0xFFFFFFFE#32 = some (0x00000000#32, 0xFFFFFFFF#32) := by decide
theorem test_sdivcc :
    muldiv 0x86F84002#32 0x80000000#32 0xFFFFFFFF#32 = some (0x80000000#32, 0x00000000#32) := by decide
theorem test_division_by_zero : faultOf (start 0x82704000#32 5#32 0#32) = some (.divisionByZero 0#32) := by decide
theorem test_sethi : after (start 0x03012345#32 0#32 0#32) (fun t => t.readReg 1#5) = some 0x048D1400#32 := by decide
theorem test_nop :
    step (start 0x01000000#32 7#32 0#32) = .next { start 0x01000000#32 7#32 0#32 with pc := 0#32, npc := 4#32 } := by rfl
theorem test_rdy :
    after { State.at base 0x87400000#32 with y := 0xFFFFFFFE#32 } (fun t => t.readReg 3#5) = some 0xFFFFFFFE#32 := by decide
theorem test_rdpsr :
    after { State.at base 0x87480000#32 with psr := 0x00400080#32 } (fun t => t.readReg 3#5) = some 0x00400080#32 := by decide
theorem test_rdwim :
    after { State.at base 0x87500000#32 with wim := 0xFF00FF00#32 } (fun t => t.readReg 3#5) = some 0xFF00FF00#32 := by decide
theorem test_rdtbr :
    after { State.at base 0x87580000#32 with tbr := 0x0FF00FF7#32 } (fun t => t.readReg 3#5) = some 0x0FF00FF7#32 := by decide
theorem test_rdy_gated :
    after { State.at base 0x87400000#32 with y := 5#32, psr := 0#32, cfg := { base.cfg with rdPrivCheck := true } }
    (fun t => t.readReg 3#5) = some 0#32 := by decide
theorem test_wry :
    after (start 0x81804002#32 0xFF00FF00#32 0x0FF00FF0#32) (fun t => t.y) = some 0xF0F0F0F0#32 := by decide
theorem test_wrpsr :
    after (start 0x81884002#32 0xFF00FF00#32 0x0FF00FF0#32) (fun t => t.psr) = some 0xF0F0F0F0#32 := by decide
theorem test_wrwim :
    after (start 0x81904002#32 0xFF00FF00#32 0x0FF00FF0#32) (fun t => t.wim) = some 0xF0F0F0F0#32 := by decide
theorem test_wrtbr :
    after (start 0x81984002#32 0xFF00FF00#32 0x0FF00FF0#32) (fun t => t.tbr) = some 0xF0F0F0F0#32 := by decide
theorem test_wry_user_mode :
    after (start 0x81804002#32 0xFF00FF00#32 0x0FF00FF0#32 0#32) (fun t => t.y) = some 0#32 := by decide

theorem test_bn : ctl 0x20800003#32 0x00100000#32 = some (4#32, 8#32, false) := by decide
theorem test_be :
    ctl 0x02800003#32 0x00400000#32 = some (0#32, 4#32, true) ∧
    ctl 0x22800003#32 0x00000000#32 = some (4#32, 8#32, false) := by decide
theorem test_ble :
    ctl 0x04800003#32 0x00800000#32 = some (0#32, 4#32, true) ∧
    ctl 0x24800003#32 0x00A00000#32 = some (4#32, 8#32, false) := by decide
theorem test_bl :
    ctl 0x06800003#32 0x00200000#32 = some (0#32, 4#32, true) ∧
    ctl 0x26800003#32 0x00E00000#32 = some (4#32, 8#32, false) := by decide
theorem test_bleu :
    ctl 0x08800003#32 0x00100000#32 = some (0#32, 4#32, true) ∧
    ctl 0x28800003#32 0x00200000#32 = some (4#32, 8#32, false) := by decide
theorem test_bcs :
    ctl 0x0A800003#32 0x00100000#32 = some (0#32, 4#32, true) ∧
    ctl 0x2A800003#32 0x00000000#32 = some (4#32, 8#32, false) := by decide
theorem test_bneg :
    ctl 0x0C800003#32 0x00800000#32 = some (0#32, 4#32, true) ∧
    ctl 0x2C800003#32 0x00700000#32 = some (4#32, 8#32, false) := by decide
theorem test_bvs :
    ctl 0x0E800003#32 0x00200000#32 = some (0#32, 4#32, true) ∧
    ctl 0x2E800003#32 0x00D00000#32 = some (4#32, 8#32, false) := by decide
theorem test_ba : ctl 0x10800003#32 0x00000000#32 = some (0#32, 4#32, true) := by decide
theorem test_bne :
    ctl 0x12800003#32 0x00000000#32 = some (0#32, 4#32, true) ∧
    ctl 0x32800003#32 0x00400000#32 = some (4#32, 8#32, false) := by decide
theorem test_bg :
    ctl 0x14800003#32 0x00A00000#32 = some (0#32, 4#32, true) ∧
    ctl 0x34800003#32 0x00E00000#32 = some (4#32, 8#32, false) := by decide
theorem test_bge :
    ctl 0x16800003#32 0x00E00000#32 = some (0#32, 4#32, true) ∧
    ctl 0x36800003#32 0x00200000#32 = some (4#32, 8#32, false) := by decide
theorem test_bgu :
    ctl 0x18800003#32 0x00200000#32 = some (0#32, 4#32, true) ∧
    ctl 0x38800003#32 0x00100000#32 = some (4#32, 8#32, false) := by decide
theorem test_bcc :
    ctl 0x1A800003#32 0x00E00000#32 = some (0#32, 4#32, true) ∧
    ctl 0x3A800003#32 0x00100000#32 = some (4#32, 8#32, false) := by decide
theorem test_bpos :
    ctl 0x1C800003#32 0x00700000#32 = some (0#32, 4#32, true) ∧
    ctl 0x3C800003#32 0x00800000#32 = some (4#32, 8#32, false) := by decide
theorem test_bvc :
    ctl 0x1E800003#32 0x00400000#32 = some (0#32, 4#32, true) ∧
    ctl 0x3E800003#32 0x00200000#32 = some (4#32, 8#32, false) := by decide
theorem test_branch_target :
    after (start 0x32BFFFFD#32 0#32 0#32) (fun t => t.branchTarget) = some 0xFFFFFFF4#32 := by decide
theorem test_call :
    after { State.at { base with npc := 0x100#32 } 0x40000004#32 with regs := RegFile.reset }
    (fun t => (t.readReg 15#5, t.npc, t.branchTarget, t.branchPending, t.executeDelaySlot)) =
    some (0x40#32, 0x104#32, 0x110#32, true, false) := by decide
theorem test_jmpl :
    after (start 0x85C06000#32 0x40000004#32 0#32) (fun t => (t.npc, t.branchPending, t.readReg 2#5)) =
    some (0x10#32, false, 0#32) := by decide
theorem test_jmpl_same_register :
    after (State.at { base with npc := 8#32 } 0x9FC3E005#32) (fun t => (t.npc, t.readReg 15#5)) = some (0x14#32, 2#32) := by decide
theorem test_halt : step base = .next { base with pc := 0#32, live := false } := by rfl
theorem test_fetch_out_of_bounds :
    faultOf { base with npc := 0x1000#32 } = some (.memOutOfBounds 0x1000#32 0x1000#32 4 .read) := by decide

/-- `MEM[200..207] = 11 22 33 44 85 96 A7 B8`, `%g1 = 200`, and the word `w` at 0 (95_test_vectors.md section 2.7). -/
def loadState (w : Word) : State :=
  let s := start w 0x200#32 0#32
  { s with mem := (s.mem.writeBE 0x200 0x11223344#32 4).writeBE 0x204 0x8596A7B8#32 4 }

/-- Register `n` after the load. -/
def loaded (w : Word) (n : RegNum) : Option Word := after (loadState w) fun t => t.readReg n

theorem test_ld : loaded 0xC4006000#32 2#5 = some 0x11223344#32 := by decide
theorem test_ldub : loaded 0xC6086004#32 3#5 = some 0x00000085#32 := by decide
theorem test_ldsb : loaded 0xCA486004#32 5#5 = some 0xFFFFFF85#32 := by decide
theorem test_ldsb_positive : loaded 0xCC486000#32 6#5 = some 0x00000011#32 := by decide
theorem test_lduh : loaded 0xCE106004#32 7#5 = some 0x00008596#32 := by decide
theorem test_ldsh : loaded 0xD0506004#32 8#5 = some 0xFFFF8596#32 := by decide
theorem test_ldsh_positive : loaded 0xD2506002#32 9#5 = some 0x00003344#32 := by decide
theorem test_ldd :
    after (loadState 0xD4186000#32) (fun t => (t.readReg 10#5, t.readReg 11#5)) =
    some (0x11223344#32, 0x8596A7B8#32) := by decide
theorem test_ldd_odd :
    faultOf (start 0xC6186000#32 0#32 0#32) = some (.illegalInstruction 0#32 0xC6186000#32) := by decide
theorem test_ldd_second_word :
    faultOf (start 0xC8186004#32 0xFF8#32 0#32) = some (.memOutOfBounds 0#32 0x1000#32 4 .read) := by decide
theorem test_ld_address_wraps :
    after (start 0xC4006001#32 0xFFFFFFFF#32 0#32) (fun t => t.readReg 2#5) = some 0xC4006001#32 := by decide
theorem test_ld_strict :
    faultOf { start 0xC4006000#32 0x201#32 0#32 with cfg := { base.cfg with strictAlign := true } } =
    some (.memBadAlignment 0#32 0x201#32 4) := by decide

/-- The word at `a` after the store `w` with `%g1 = g1`, `%g2 = A1B2C3D4`, `%g3 = E5F60718` over bytes that hold `EE`. -/
def stored (w g1 : Word) (a : Nat) : Option Word :=
  let s := start w g1 0xA1B2C3D4#32
  let m := (s.mem.writeBE a 0xEEEEEEEE#32 4)
  after { s with mem := m, regs := s.regs.set (.g 3) 0xE5F60718#32 } fun t => t.wordAt a

theorem test_st : stored 0xC4206000#32 0x300#32 0x300 = some 0xA1B2C3D4#32 := by decide
theorem test_stb : stored 0xC4286005#32 0x300#32 0x304 = some 0xEED4EEEE#32 := by decide
theorem test_sth : stored 0xC4306006#32 0x300#32 0x304 = some 0xEEEEC3D4#32 := by decide
theorem test_std_even_word : stored 0xC4386008#32 0x300#32 0x308 = some 0xA1B2C3D4#32 := by decide
theorem test_std_odd_word : stored 0xC4386008#32 0x300#32 0x30c = some 0xE5F60718#32 := by decide
theorem test_st_out_of_bounds :
    faultOf (start 0xC4206000#32 0xFFE#32 0x11223344#32) = some (.memOutOfBounds 0#32 0xFFE#32 4 .write) := by decide
theorem test_std_odd :
    faultOf (start 0xC6386000#32 0#32 0#32) = some (.illegalInstruction 0#32 0xC6386000#32) := by decide

theorem test_save :
    after { State.at base 0x9DE3BFA0#32 with regs := RegFile.reset.set (.o 0 6) 0x1000#32 }
    (fun t => (t.cwp, t.readReg 14#5, t.regs.get (.o 0 6), t.wovf)) = some (1, 0xFA0#32, 0x1000#32, false) := by decide
theorem test_save_wraps :
    after { State.at base 0x81E00000#32 with psr := 0x83#32 } (fun t => (t.psr, t.wim, t.wovf, t.wunf)) =
    some (0x80#32, 1#32, true, false) := by decide
theorem test_restore :
    after { State.at base 0x93EA0000#32 with psr := 0x81#32, regs := RegFile.reset.set (.o 1 0) 7#32 }
    (fun t => (t.cwp, t.readReg 9#5, t.wim)) = some (0, 7#32, 0#32) := by decide
theorem test_restore_wraps :
    after (State.at base 0x81E80000#32) (fun t => (t.psr, t.wim, t.wovf, t.wunf)) =
    some (0x83#32, 8#32, false, true) := by decide
theorem test_cwp_beyond_windows :
    after { State.at base 0x81E00000#32 with psr := 0x86#32 } (fun t => t.psr) = some 0x83#32 := by decide

/-- A no-op moves `PC` and `nPC` and changes nothing else: `FPop1`, `LDF`, `FBfcc` and `CBccc` with the annul bit. -/
theorem test_no_ops :
    step (start 0x81A00820#32 7#32 9#32) = .next { start 0x81A00820#32 7#32 9#32 with pc := 0#32, npc := 4#32 } ∧
    step (start 0xC5006000#32 7#32 9#32) = .next { start 0xC5006000#32 7#32 9#32 with pc := 0#32, npc := 4#32 } ∧
    step (start 0x11800004#32 7#32 9#32) = .next { start 0x11800004#32 7#32 9#32 with pc := 0#32, npc := 4#32 } ∧
    step (start 0x31C00004#32 7#32 9#32) = .next { start 0x31C00004#32 7#32 9#32 with pc := 0#32, npc := 4#32 } := by
  and_intros <;> rfl
/-- The words of 95_test_vectors.md section 2.11 that fault. -/
theorem test_faults :
    faultOf (start 0x91D02000#32 0#32 0#32) = some (.unimplementedInstruction 0#32 0x91D02000#32) ∧
    faultOf (start 0x81C84000#32 0#32 0#32) = some (.unimplementedInstruction 0#32 0x81C84000#32) ∧
    faultOf (start 0x81D84000#32 0#32 0#32) = some (.unimplementedInstruction 0#32 0x81D84000#32) ∧
    faultOf (start 0xC4804160#32 0#32 0#32) = some (.unimplementedInstruction 0#32 0xC4804160#32) ∧
    faultOf (start 0x00000001#32 0#32 0#32) = some (.illegalInstruction 0#32 0x00000001#32) ∧
    faultOf (start 0x00400000#32 0#32 0#32) = some (.illegalInstruction 0#32 0x00400000#32) ∧
    faultOf (start 0x87004002#32 0#32 0#32) = some (.illegalInstruction 0#32 0x87004002#32) ∧
    faultOf (start 0xC6784002#32 0#32 0#32) = some (.illegalInstruction 0#32 0xC6784002#32) := by decide
/-- The engines on the operands that the conflicts C7 and C8 turn on. -/
theorem test_engines :
    mulEngine 0xFFFFFFFF#32 0xFFFFFFFF#32 = 0xFFFFFFFE00000001#64 ∧
    divEngine 0xFFFFFFFF#32 0xFFFFFFFF#32 = 0x0000000000000001#64 ∧
    divEngine 0xFFFFFFFF#32 0x80000001#32 = 0x7FFFFFFE00000001#64 := by decide +kernel

/-! ## Witnesses: for each statement with hypotheses, a state and operands that meet them, each clause at a boundary -/

/-- A strict machine, in user mode, with the special-register reads gated. -/
def strictUser : State :=
  { base with cfg := { base.cfg with strictAlign := true, rdPrivCheck := true }, psr := 0#32 }

theorem witness_DecodeAfterEncode :
    (Instr.sethi 0#5 1#22).wellFormed = true ∧ (Instr.unimp 1#5 0#22).wellFormed = true ∧
    (Instr.add 31#5 31#5 (.imm 0x1FFF#13)).wellFormed = true := by decide

/-- Window 0, and window `W - 1`, whose inputs are the outputs of window 0. -/
theorem witness_RegisterMap :
    (7 : Fin 8) ≠ 0 ∧ (0 : Fin 32).val = (base.psr.extractLsb' 0 5).toNat % base.cfg.windows ∧
    (0 : Fin 32).val = (({ base with psr := 0x83#32 }.psr.extractLsb' 0 5).toNat % base.cfg.windows + 1) %
      base.cfg.windows := by decide

theorem witness_RegisterWrite :
    (0#5 : RegNum) = 0#5 ∧ (1#5 : RegNum) ≠ 0#5 ∧ 24 ≤ (24#5 : RegNum).toNat ∧ 24 ≤ (31#5 : RegNum).toNat ∧
    (1 : Fin 32).val = (base.cwp + 1) % base.cfg.windows ∧ (31#5 : RegNum).toNat = 24 + (7 : Fin 8) := by decide

theorem witness_SecondOperand :
    (0x86004002#32).getLsbD 13 = false ∧ (0x86086FFF#32).getLsbD 13 = true := by decide

/-- The last byte of memory, the first address out of bounds, and an address that the strict machine refuses. -/
theorem witness_MemoryReadPort :
    (1 = 1 ∨ 1 = 2 ∨ 1 = 4) ∧ ¬ base.cfg.memSize < (0xFFF#32).toNat + 1 ∧
    ¬ base.cfg.memSize < (0xFFE#32).toNat + 2 ∧ ¬ base.cfg.memSize < (0xFFC#32).toNat + 4 ∧
    base.cfg.memSize < (0xFFD#32).toNat + 4 ∧
    (strictUser.cfg.strictAlign = true ∧ 1 < 2 ∧ (0x201#32).toNat % 2 ≠ 0) := by decide

theorem witness_MemoryWritePort :
    (4 = 1 ∨ 4 = 2 ∨ 4 = 4) ∧ ¬ base.cfg.memSize < (0xFFC#32).toNat + 4 ∧ base.cfg.memSize < (0xFFD#32).toNat + 4 ∧
    (strictUser.cfg.strictAlign = true ∧ 1 < 4 ∧ (0x202#32).toNat % 4 ≠ 0) := by decide

/-- A divisor of 0 and one of 1. -/
theorem witness_DivideResults :
    (base.operand2 (.imm 0#13) = 0#32) ∧ ¬ (base.operand2 (.imm 1#13) = 0#32) := by decide

theorem witness_DivideFlagsOpen :
    (base.operand2 (.reg 0#8 0#5) = 0#32) ∧ ¬ (base.operand2 (.imm 0x1FFF#13) = 0#32) := by decide

theorem witness_SpecialReads :
    (base.cfg.rdPrivCheck = false ∨ base.psr.getLsbD 7 = true) ∧
    ¬ (strictUser.cfg.rdPrivCheck = false ∨ strictUser.psr.getLsbD 7 = true) := by decide

theorem witness_SpecialWrites : base.psr.getLsbD 7 = true ∧ ¬ strictUser.psr.getLsbD 7 = true := by decide

/-- Both values of a predicate, and both values of the annul bit. -/
theorem witness_BranchesOnCondition :
    (start 0#32 0#32 0#32 0x00400080#32).psr.getLsbD 22 = true ∧ ¬ base.psr.getLsbD 22 = true ∧ (1#1 = 1#1) ∧
    ¬ (0#1 = 1#1) := by decide

theorem witness_BranchesOnInverse :
    (!base.psr.getLsbD 22) = true ∧ ¬ (!(start 0#32 0#32 0#32 0x00400080#32).psr.getLsbD 22) = true := by decide

theorem witness_ZeroWordHalts : base.fetches 0#32 := by unfold State.fetches; decide

/-- The last word of memory, the first address out of bounds, a misaligned one. -/
theorem witness_LoadEffects :
    ¬ base.cfg.memSize < (base.effAddr 0#5 (.imm 0xFFC#13)).toNat + 4 ∧
    base.cfg.memSize < (base.effAddr 0#5 (.imm 0xFFD#13)).toNat + 4 ∧
    (strictUser.cfg.strictAlign = true ∧ 1 < 4 ∧ (strictUser.effAddr 0#5 (.imm 0x201#13)).toNat % 4 ≠ 0) := by decide

/-- An odd register, a misaligned pair, the last pair of memory, a pair whose second word is out of bounds. -/
theorem witness_LoadDoubleEffect :
    (3#5 : RegNum).getLsbD 0 = true ∧ ¬ (0#5 : RegNum).getLsbD 0 = true ∧
    (strictUser.cfg.strictAlign = true ∧ (strictUser.effAddr 0#5 (.imm 0x204#13)).toNat % 8 ≠ 0) ∧
    ¬ base.cfg.memSize < (base.effAddr 0#5 (.imm 0xFF8#13)).toNat + 4 ∧
    ¬ base.cfg.memSize < (base.effAddr 0#5 (.imm 0xFF8#13) + 4#32).toNat + 4 ∧
    base.cfg.memSize < (base.effAddr 0#5 (.imm 0xFFC#13) + 4#32).toNat + 4 ∧
    base.cfg.memSize < (base.effAddr 0#5 (.imm 0xFFD#13)).toNat + 4 := by decide

theorem witness_StoreEffects :
    ¬ base.cfg.memSize < (base.effAddr 0#5 (.imm 0xFFF#13)).toNat + 1 ∧
    ¬ base.cfg.memSize < (base.effAddr 0#5 (.imm 0xFFC#13)).toNat + 4 ∧
    base.cfg.memSize < (base.effAddr 0#5 (.imm 0xFFF#13)).toNat + 2 ∧
    (strictUser.cfg.strictAlign = true ∧ 1 < 2 ∧ (strictUser.effAddr 0#5 (.imm 0x201#13)).toNat % 2 ≠ 0) := by decide

theorem witness_StoreDoubleEffect :
    (31#5 : RegNum).getLsbD 0 = true ∧ ¬ (30#5 : RegNum).getLsbD 0 = true ∧
    ¬ base.cfg.memSize < (base.effAddr 0#5 (.imm 0xFF8#13)).toNat + 4 ∧
    ¬ base.cfg.memSize < (base.effAddr 0#5 (.imm 0xFF8#13) + 4#32).toNat + 4 := by decide

/-- Legal at both ends of `W`; a rotation that wraps and one that does not, in each direction. -/
theorem witness_SaveRestoreEffects :
    base.cfg.legal = true ∧ { base.cfg with windows := 2 }.legal = true ∧ { base.cfg with windows := 32 }.legal = true ∧
    ((0x83#32).extractLsb' 0 5).toNat % base.cfg.windows = base.cfg.windows - 1 ∧
    ¬ (base.psr.extractLsb' 0 5).toNat % base.cfg.windows = base.cfg.windows - 1 ∧
    (base.psr.extractLsb' 0 5).toNat % base.cfg.windows = 0 := by decide

theorem witness_UnexecutedInstructionsFault :
    Instr.rett 0#5 0#5 (.imm 0#13) ∈ [Instr.ticc 0#1 0#4 0#5 (.imm 0#13), .rett 0#5 0#5 (.imm 0#13)] := by decide

theorem witness_IllegalInstructionsFault :
    Instr.swap 0#5 0#5 (.imm 0#13) ∈ [Instr.unimp 0#5 0#22] ++ [Instr.swap 0#5 0#5 (.imm 0#13)] := by decide

/-- The last address a fetch may have, the first it may not have, and four bytes that decode. -/
theorem witness_StepRunsDecoded :
    ¬ base.cfg.memSize < ({ base with npc := 0xFFC#32 } : State).npc.toNat + 4 ∧
    base.cfg.memSize < ({ base with npc := 0xFFD#32 } : State).npc.toNat + 4 ∧
    decode ([base.mem.readByte 0, base.mem.readByte 1, base.mem.readByte 2, base.mem.readByte 3] ++ []) =
      .ok (.halt0, []) := by
  refine ⟨by decide, by decide, rfl⟩

theorem witness_NextNpcPhaseCases :
    ({ base with branchPending := true, executeDelaySlot := true } : State).executeDelaySlot = true ∧
    ({ base with branchPending := true } : State).executeDelaySlot = false ∧ base.branchPending = false := by decide

/-- The program of vector S-D1 from its second word on: `ba`, `nop`, and `add` at the target. -/
def branchProgram : State :=
  { base with mem := ((base.mem.writeBE 0 0x10800003#32 4).writeBE 4 0x01000000#32 4).writeBE 0xC 0x8600E001#32 4 }

theorem not_transfer {s : State} {w : Word} (h : ¬ IsTransfer (s.wordAt s.npc.toNat)) (hf : s.fetches w) :
    ¬ IsTransfer w := by rw [← hf.2]; exact h

theorem witness_TransferOrder :
    branchProgram.fetches 0x10800003#32 ∧ branchProgram.branchPending = false ∧
    branchProgram.executeDelaySlot = false ∧ IsBicc 0x10800003#32 ∧ branchProgram.taken 0x10800003#32 ∧
    ∃ t t2 t3, step branchProgram = .next t ∧ PlainStep t t2 ∧ PlainStep t2 t3 := by
  refine ⟨by unfold State.fetches; decide, rfl, rfl, by unfold IsBicc; decide, by unfold State.taken; decide,
    _, _, _, rfl, ⟨rfl, rfl, fun w hw => not_transfer ?_ hw⟩, ⟨rfl, rfl, fun w hw => not_transfer ?_ hw⟩⟩ <;>
  · unfold IsTransfer IsBicc IsCall IsJmpl; decide

/-- The other premises of `TransferOrder`: a call, untaken branches with and without annul, a jump. -/
theorem witness_TransferOrder_forms :
    IsCall 0x40000004#32 ∧ (IsBicc 0x00800003#32 ∧ ¬ base.taken 0x00800003#32 ∧ fieldA 0x00800003#32 = 0#1) ∧
    (IsBicc 0x20800003#32 ∧ ¬ base.taken 0x20800003#32 ∧ fieldA 0x20800003#32 = 1#1) ∧ IsJmpl 0x81C7E008#32 := by
  unfold IsCall IsBicc IsJmpl State.taken; decide

/-- A `ba` in the delay slot of another transfer, and the plain step after it. -/
theorem witness_TransferCouples :
    ({ branchProgram with branchPending := true } : State).fetches 0x10800003#32 ∧
    ({ branchProgram with branchPending := true } : State).branchPending = true ∧
    ({ branchProgram with branchPending := true } : State).executeDelaySlot = false ∧
    ∃ t t2, step { branchProgram with branchPending := true } = .next t ∧ PlainStep t t2 := by
  refine ⟨by unfold State.fetches; decide, rfl, rfl, _, _, rfl, ⟨rfl, rfl, fun w hw => not_transfer ?_ hw⟩⟩
  unfold IsTransfer IsBicc IsCall IsJmpl; decide

/-- A word of each class of rule R258, one of each unimplemented row, and a state that fetches one. -/
theorem witness_FaultingWords :
    (State.at base 0x00000001#32).fetches 0x00000001#32 ∧ IsIllegal 0x00000001#32 ∧ IsIllegal 0x01400000#32 ∧
    IsIllegal 0x81F80000#32 ∧ IsIllegal 0x87204002#32 ∧ IsIllegal 0xC1F80000#32 ∧ IsIllegal 0xC6784002#32 ∧
    IsIllegal 0xC6186000#32 ∧ ¬ IsIllegal 0xC4186000#32 ∧ IsUnimplemented 0x91D02000#32 ∧
    IsUnimplemented 0xC0D00000#32 := by
  refine ⟨by unfold State.fetches; decide, by unfold IsIllegal; decide, by unfold IsIllegal; decide,
    by unfold IsIllegal; decide, by unfold IsIllegal; decide, by unfold IsIllegal; decide,
    by unfold IsIllegal; decide, by unfold IsIllegal; decide, by unfold IsIllegal; decide,
    by unfold IsUnimplemented; decide, by unfold IsUnimplemented; decide⟩

theorem witness_NoOpWords :
    (State.at base 0x81A00820#32).fetches 0x81A00820#32 ∧ IsNoOp 0x81A00820#32 ∧ IsNoOp 0xC1B80000#32 ∧
    IsNoOp 0x31C00004#32 ∧ base.executeDelaySlot = false := by
  unfold State.fetches IsNoOp; decide

/-- `st %g2, [%g1]` at 0 with `%g1 = 4`. -/
theorem witness_FetchSeesStore :
    (start 0xC4206000#32 4#32 0x01000000#32).fetches 0xC4206000#32 ∧
    decodeWord 0xC4206000#32 = .st 2#5 1#5 (.imm 0#13) ∧
    (start 0xC4206000#32 4#32 0x01000000#32).branchPending = false ∧
    (start 0xC4206000#32 4#32 0x01000000#32).effAddr 1#5 (.imm 0#13) =
      (start 0xC4206000#32 4#32 0x01000000#32).npc + 4#32 ∧
    ∃ t, step (start 0xC4206000#32 4#32 0x01000000#32) = .next t := by
  refine ⟨by unfold State.fetches; decide, rfl, rfl, by decide, _, rfl⟩

theorem witness_HaltPersists : ∃ t, step base = .next t ∧ t.live = false := ⟨_, rfl, rfl⟩

theorem witness_UserModeStays : strictUser.psr.getLsbD 7 = false ∧ ∃ t, step strictUser = .next t :=
  ⟨by decide, _, rfl⟩

theorem witness_FlagWriters :
    ∃ t, exec (.subcc 0#5 0#5 (.imm 0#13)) base = .next t ∧ t.icc ≠ base.icc := ⟨_, rfl, by decide⟩

theorem witness_MemoryWriters :
    ∃ t, exec (.stb 1#5 0#5 (.imm 0#13)) (start 0#32 7#32 0#32) = .next t ∧ t.mem ≠ (start 0#32 7#32 0#32).mem :=
  ⟨_, rfl, by decide⟩

theorem witness_RegisterWriters :
    WritesNoReg (.wry 0#5 0#5 (.imm 0#13)) ∧ ∃ t, exec (.wry 0#5 0#5 (.imm 0#13)) base = .next t :=
  ⟨.inr (.inr (.inr (.inr ⟨_, _, _, List.mem_cons_self⟩))), _, rfl⟩

theorem witness_SpecialRegisterWriters :
    (∃ t, exec (.umul 0#5 1#5 (.reg 0#8 1#5)) (start 0#32 0xFFFFFFFF#32 0#32) = .next t ∧ t.y ≠ 0#32) ∧
    (∃ t, exec (.wrtbr 0#5 0#5 (.imm 1#13)) base = .next t ∧ t.tbr ≠ base.tbr) ∧
    (∃ t, exec (.restore 0#5 0#5 (.imm 0#13)) base = .next t ∧ t.wim ≠ base.wim ∧ t.psr ≠ base.psr) ∧
    (∃ t, exec (.bn 1#1 0#22) base = .next t ∧ t.pc ≠ base.pc) ∧
    ∃ t, exec (.call 1#30) base = .next t ∧ t.branchPending ≠ base.branchPending := by
  refine ⟨⟨_, rfl, by decide⟩, ⟨_, rfl, by decide⟩, ⟨_, rfl, by decide, by decide⟩, ⟨_, rfl, by decide⟩,
    ⟨_, rfl, by decide⟩⟩

theorem witness_IndicatorsSticky :
    (State.at base 0x81E80000#32).fetches 0x81E80000#32 ∧
    (∃ t, step (State.at base 0x81E80000#32) = .next t ∧ t.wunf ≠ base.wunf) ∧
    ∃ t, step { State.at base 0x81E00000#32 with psr := 0x83#32, wunf := true } = .next t ∧ t.wovf ≠ base.wovf :=
  ⟨by unfold State.fetches; decide, ⟨_, rfl, by decide⟩, ⟨_, rfl, by decide⟩⟩

theorem witness_OverflowLaws :
    (∃ t, exec (.addcc 0#5 0#5 (.imm 0#13)) base = .next t) ∧ (∃ t, exec (.addxcc 0#5 0#5 (.imm 0#13)) base = .next t) ∧
    (∃ t, exec (.subcc 0#5 0#5 (.imm 0#13)) base = .next t) ∧ ∃ t, exec (.subxcc 0#5 0#5 (.imm 0#13)) base = .next t :=
  ⟨⟨_, rfl⟩, ⟨_, rfl⟩, ⟨_, rfl⟩, ⟨_, rfl⟩⟩

theorem witness_CompareThenBranch : ∃ t, exec (.subcc 0#5 0#5 (.imm 1#13)) base = .next t := ⟨_, rfl⟩

theorem witness_SignedDivideTable : base.operand2 (.imm 0x1FFF#13) ≠ 0#32 := by decide

/-- The last word, halfword, byte and pair of memory. -/
theorem witness_StoreThenLoad :
    (∃ t, exec (.st 1#5 0#5 (.imm 0xFFC#13)) base = .next t ∧ t.effAddr 0#5 (.imm 0xFFC#13) = 0xFFC#32) ∧
    (∃ t, exec (.stb 1#5 0#5 (.imm 0xFFF#13)) base = .next t ∧ t.effAddr 0#5 (.imm 0xFFF#13) = 0xFFF#32) ∧
    (∃ t, exec (.sth 1#5 0#5 (.imm 0xFFE#13)) base = .next t ∧ t.effAddr 0#5 (.imm 0xFFE#13) = 0xFFE#32) ∧
    (∃ t, exec (.std 2#5 0#5 (.imm 0xFF8#13)) base = .next t ∧ t.effAddr 0#5 (.imm 0xFF8#13) = 0xFF8#32) ∧
    (0#5 : RegNum).getLsbD 0 = false := by
  refine ⟨⟨_, rfl, by decide⟩, ⟨_, rfl, by decide⟩, ⟨_, rfl, by decide⟩, ⟨_, rfl, by decide⟩, by decide⟩

theorem witness_SpecialRoundTrip :
    base.psr.getLsbD 7 = true ∧ (∃ t, exec (.wry 0#5 0#5 (.imm 1#13)) base = .next t) ∧
    (∃ t, exec (.wrwim 0#5 0#5 (.imm 1#13)) base = .next t) ∧ (∃ t, exec (.wrtbr 0#5 0#5 (.imm 1#13)) base = .next t) ∧
    ∃ t, exec (.wrpsr 0#5 0#5 (.imm 1#13)) base = .next t :=
  ⟨by decide, ⟨_, rfl⟩, ⟨_, rfl⟩, ⟨_, rfl⟩, ⟨_, rfl⟩⟩

theorem witness_WindowRoundTrip : base.cfg.legal = true ∧ { base.cfg with windows := 32 }.legal = true := by decide

/-- `base` with a transfer pending meets the invariant, and steps. -/
theorem witness_StepKeepsInvariant :
    ({ State.at base 0x86804002#32 with branchPending := true, branchTarget := 0x100#32 } : State).Inv ∧
    ∃ t, step { State.at base 0x86804002#32 with branchPending := true, branchTarget := 0x100#32 } = .next t :=
  ⟨⟨by decide, by decide, by decide, by decide, by decide, by decide,
    fun q _ => by cases q <;> simp [State.at, State.withFetchWord, State.placeAtFetch, base, State.reset, RegFile.reset,
      RegFile.get]⟩, _, rfl⟩

theorem witness_DivideEnginesAgree : (0x80000001#32 : Word) ≠ 0#32 := by decide


end Sys2Proof.Tests
end

section
/-! # The state family: registers, windows, who writes what, and the invariant

One inversion lemma, `exec_effect`, says everything that an instruction which completes may have done; each statement
about what changes or stays is read off it. -/

namespace Sys2Proof.Machine

/-! ## Parameters and windows -/

theorem Config.legal_iff (c : Config) :
    c.legal = true ↔ 2 ≤ c.windows ∧ c.windows ≤ 32 ∧ 1 ≤ c.memSize ∧ c.memSize ≤ 2 ^ 32 := by
  simp [Config.legal, and_assoc]

theorem toNat_psrCwp_get (r : Word) : (psrCwp.get r).toNat = (r.extractLsb' 0 5).toNat := by
  have hmask : (fieldMask 5).toNat = 2 ^ 5 - 1 := by decide
  simp only [FieldSpec.get, psrCwp, getField, BitVec.toNat_and, hmask, Nat.and_two_pow_sub_one_eq_mod,
    toNat_field, BitVec.ushiftRight_zero, pow_zero, Nat.div_one]

/-- The effective window index, by the bits of `PSR` (rules R12, R23). -/
theorem State.cwp_eq (s : State) : s.cwp = (s.psr.extractLsb' 0 5).toNat % s.cfg.windows := by
  rw [State.cwp, toNat_psrCwp_get]

/-- Writing a window index below 32 into `PSR.CWP` and reading it back. -/
theorem toNat_psrCwp_get_set (r : Word) {k : Nat} (hk : k < 32) :
    (psrCwp.get (psrCwp.set r (BitVec.ofNat 32 k))).toNat = k := by
  have hmask : (fieldMask 5).toNat = 2 ^ 5 - 1 := by decide
  rw [FieldSpec.get, FieldSpec.set, getField_setField_same _ _ _ _ (by decide)]
  simp only [psrCwp, BitVec.toNat_and, hmask, Nat.and_two_pow_sub_one_eq_mod, BitVec.toNat_ofNat]
  omega

theorem val_windowIndex {w : Nat} (h : w < 32) : (windowIndex w).val = w := Nat.mod_eq_of_lt h

theorem windowIndex_eq {k : Nat} {w : Fin 32} (h : w.val = k) : windowIndex k = w :=
  Fin.ext (by rw [val_windowIndex (by omega), h])

section Legal
variable {s : State} (h : s.cfg.legal = true)
include h

theorem State.cwp_lt_windows : s.cwp < s.cfg.windows := by
  have := (Config.legal_iff _).1 h
  exact Nat.mod_lt _ (by omega)

theorem Rotation.target_lt_windows (d : Rotation) (k : Nat) : d.target s.cfg.windows k < s.cfg.windows := by
  have := (Config.legal_iff _).1 h
  cases d <;> exact Nat.mod_lt _ (by omega)

/-- A rotation enters the window that it names (rules R15, R241). -/
theorem State.cwp_rotate (d : Rotation) : (s.rotate d).cwp = d.target s.cfg.windows s.cwp := by
  have hlt := Rotation.target_lt_windows h d s.cwp
  have hle := (Config.legal_iff _).1 h
  rw [State.cwp, State.rotate_psr, State.rotate_cfg, toNat_psrCwp_get_set _ (by omega), Nat.mod_eq_of_lt hlt]

end Legal

/-! ## The cell of a register number, by the four groups of rule R12 -/

section Cells
variable (w k : Nat) {n : RegNum}

theorem physReg_global (h0 : n ≠ 0#5) (h : n.toNat < 8) : physReg w k n = some (.g (Fin.ofNat 8 n.toNat)) := by
  simp [physReg, h0, h]

theorem physReg_out (h8 : 8 ≤ n.toNat) (h : n.toNat < 16) :
    physReg w k n = some (.o (windowIndex k) (Fin.ofNat 8 n.toNat)) := by
  have h0 : n ≠ 0#5 := by rintro rfl; simp at h8
  simp [physReg, h0, h, Nat.not_lt.2 h8]

theorem physReg_local (h16 : 16 ≤ n.toNat) (h : n.toNat < 24) :
    physReg w k n = some (.l (windowIndex k) (Fin.ofNat 8 n.toNat)) := by
  have h0 : n ≠ 0#5 := by rintro rfl; simp at h16
  have h8 : ¬ n.toNat < 8 := by omega
  simp [physReg, h0, h, h8, Nat.not_lt.2 h16]

theorem physReg_in (h24 : 24 ≤ n.toNat) :
    physReg w k n = some (.o (windowIndex ((k + 1) % w)) (Fin.ofNat 8 n.toNat)) := by
  have h0 : n ≠ 0#5 := by rintro rfl; simp at h24
  have h8 : ¬ n.toNat < 8 := by omega
  have h16 : ¬ n.toNat < 16 := by omega
  simp [physReg, h0, h8, h16, Nat.not_lt.2 h24]

/-- On a legal machine a register number names only cells that the machine has (rules R11, R12). -/
theorem exists_of_physReg {w k : Nat} {p : PhysReg} (hw : w ≤ 32) (hk : k < w) (hp : physReg w k n = some p) :
    p.exists w := by
  by_cases h0 : n = 0#5
  · rw [(physReg_eq_none w k n).2 h0] at hp; cases hp
  by_cases h8 : n.toNat < 8
  · rw [physReg_global w k h0 h8] at hp
    cases hp
    have hn : n.toNat ≠ 0 := fun e => h0 (BitVec.eq_of_toNat_eq e)
    intro hi
    have : n.toNat % 8 = 0 := congrArg Fin.val hi
    omega
  by_cases h16 : n.toNat < 16
  · rw [physReg_out w k (by omega) h16] at hp
    cases hp
    exact (val_windowIndex (by omega : k < 32)).trans_lt hk
  by_cases h24 : n.toNat < 24
  · rw [physReg_local w k (by omega) h24] at hp
    cases hp
    exact (val_windowIndex (by omega : k < 32)).trans_lt hk
  · rw [physReg_in w k (by omega)] at hp
    cases hp
    have hlt : (k + 1) % w < w := Nat.mod_lt _ (by omega)
    exact (val_windowIndex (by omega : (k + 1) % w < 32)).trans_lt hlt

end Cells

theorem State.exists_of_cellOf {s : State} (h : s.cfg.legal = true) {n : RegNum} {p : PhysReg}
    (hp : s.cellOf n = some p) : p.exists s.cfg.windows :=
  exists_of_physReg ((Config.legal_iff _).1 h).2.1 (State.cwp_lt_windows h) hp

/-- A register other than `%g0` names a cell. -/
theorem State.exists_cellOf (s : State) {n : RegNum} (h : n ≠ 0#5) : ∃ p, s.cellOf n = some p :=
  Option.ne_none_iff_exists'.1 fun hnone => h ((physReg_eq_none _ _ _).1 hnone)

/-- A read sees the register file, the number of windows and the current window, and nothing else. -/
theorem State.readReg_congr {s t : State} (hcfg : t.cfg = s.cfg) (hregs : t.regs = s.regs) (hcwp : t.cwp = s.cwp)
    (n : RegNum) : t.readReg n = s.readReg n := by
  simp only [State.readReg, State.cellOf, hcfg, hregs, hcwp]

/-- `%g0` reads 0, and every other register reads its cell (rules R12, R14). -/
theorem State.readReg_of_cellOf {s : State} {n : RegNum} {p : PhysReg} (h : s.cellOf n = some p) :
    s.readReg n = s.regs.get p := by
  rw [State.readReg, h]; rfl

/-! ## Alignment of the targets (rule R22) -/

theorem aligned_add {a b : Word} (ha : a.toNat % 4 = 0) (hb : b.toNat % 4 = 0) : (a + b).toNat % 4 = 0 := by
  rw [BitVec.toNat_add]; omega

theorem aligned_add_four {a : Word} (ha : a.toNat % 4 = 0) : (a + 4#32).toNat % 4 = 0 :=
  aligned_add ha (by decide)

theorem aligned_shiftLeft_two (a : Word) : (a <<< 2).toNat % 4 = 0 := by
  rw [BitVec.toNat_shiftLeft, Nat.shiftLeft_eq]; omega

/-! ## What an instruction that completes may change -/

/-- The shapes of the state that `exec i s` answers, one for each kind of instruction: which operation of the model
made it, which rule lets `i` do it, and the checks that were passed. -/
inductive Effect (i : Instr) (s : State) : State → Prop where
  /-- Nothing: the no-ops, a branch not taken, a special register out of reach. -/
  | idle : Effect i s s
  /-- The zero word (rule R163). -/
  | halt : Effect i s { s with live := false }
  /-- A result in `rd`. -/
  | reg (rd : RegNum) (v : Word) : Effect i s (s.writeReg rd v)
  /-- The two words of `LDD` (rule R214). -/
  | regTwice (rd rd' : RegNum) (v v' : Word) : Effect i s ((s.writeReg rd v).writeReg rd' v')
  /-- A result and the condition codes (rule R100). -/
  | regFlags (rd : RegNum) (v : Word) (f : Icc) (hf : WritesFlags i) : Effect i s ((s.writeReg rd v).writeIcc f)
  /-- A 64-bit pair in `Y` and `rd` (rules R141, R146). -/
  | pair (rd : RegNum) (p : BitVec 64) (hy : WritesY i) : Effect i s (s.writePair rd p)
  /-- A pair and the condition codes (rules R142, R144). -/
  | pairFlags (rd : RegNum) (p : BitVec 64) (f : Icc) (hy : WritesY i) (hf : WritesFlags i) :
      Effect i s ((s.writePair rd p).writeIcc f)
  /-- A pair and four unspecified condition codes (rules R147, R149). -/
  | pairFreeFlags (rd : RegNum) (p : BitVec 64) (hy : WritesY i) (hf : WritesFlags i) :
      Effect i s (s.writePair rd p).writeFreeIcc
  /-- `WRY` in supervisor mode (rule R198). -/
  | wry (v : Word) (hy : WritesY i) : Effect i s { s with y := v }
  /-- `WRPSR` in supervisor mode (rule R199). -/
  | wrpsr (v : Word) (hf : WritesFlags i) : Effect i s { s with psr := v }
  /-- `WRWIM` in supervisor mode (rule R200). -/
  | wrwim (v : Word) (hi : ∃ rd rs1 src, i = .wrwim rd rs1 src) : Effect i s { s with wim := v }
  /-- `WRTBR` in supervisor mode (rule R201). -/
  | wrtbr (v : Word) (hi : ∃ rd rs1 src, i = .wrtbr rd rs1 src) : Effect i s { s with tbr := v }
  /-- `SAVE` (rule R242). -/
  | save (rd rs1 : RegNum) (src : Operand2) (v : Word) (hi : i = .save rd rs1 src) :
      Effect i s ((s.rotate .save).writeReg rd v)
  /-- `RESTORE` (rule R243). -/
  | restore (rd rs1 : RegNum) (src : Operand2) (v : Word) (hi : i = .restore rd rs1 src) :
      Effect i s ((s.rotate .restore).writeReg rd v)
  /-- A store that passed its checks (rule R43). -/
  | store (a : Word) (n : Nat) (v : Word) (hm : WritesMemory i) (hok : s.accessFault a n .write = none) :
      Effect i s (s.storeBytes a n v)
  /-- `STD`, both words checked before either is written (rule R218). -/
  | storeTwice (a a' : Word) (v v' : Word) (hm : WritesMemory i) (hok : s.accessFault a 4 .write = none)
      (hok' : s.accessFault a' 4 .write = none) : Effect i s ((s.storeBytes a 4 v).storeBytes a' 4 v')
  /-- A branch that annuls the next word (rule R170). -/
  | annul (hi : IsBicc (encode i)) : Effect i s { s with pc := s.pc + 4#32 }
  /-- A transfer decided: a taken branch links to `%g0`, which discards it, `CALL` and `JMPL` to a register
  (rules R170, R172, R173). -/
  | transfer (rd : RegNum) (v target : Word) (delaySlot : Bool) (hi : IsTransfer (encode i))
      (hal : s.pc.toNat % 4 = 0 → target.toNat % 4 = 0) : Effect i s ((s.writeReg rd v).setLatches target delaySlot)

section Templates
variable {i : Instr} {s t : State} {rd rs1 : RegNum} {src : Operand2}

theorem State.alu_effect {f : Word → Word → Word} (h : s.alu rd rs1 src f = .next t) : Effect i s t := by
  rw [State.alu_next.1 h]; exact .reg ..

theorem State.aluCc_effect {f : Word → Word → Word} {flags : Word → Word → Icc} (hf : WritesFlags i)
    (h : s.aluCc rd rs1 src f flags = .next t) : Effect i s t := by
  rw [State.aluCc_next.1 h]; exact .regFlags _ _ _ hf

theorem State.logicCc_effect {f : Word → Word → Word} (hf : WritesFlags i) (h : s.logicCc rd rs1 src f = .next t) :
    Effect i s t := by
  rw [State.logicCc] at h; exact State.aluCc_effect hf h

theorem State.multiply_effect {f : Word → Word → BitVec 64} (hy : WritesY i)
    (h : s.multiply rd rs1 src f = .next t) : Effect i s t := by
  rw [State.multiply_next.1 h]; exact .pair _ _ hy

theorem State.multiplyCc_effect {f : Word → Word → BitVec 64} {flags : BitVec 64 → Icc} (hy : WritesY i)
    (hf : WritesFlags i) (h : s.multiplyCc rd rs1 src f flags = .next t) : Effect i s t := by
  rw [State.multiplyCc_next.1 h]; exact .pairFlags _ _ _ hy hf

theorem State.divide_effect {f : Word → Word → BitVec 64} (hy : WritesY i)
    (h : s.divide rd rs1 src f = .next t) : Effect i s t := by
  rw [(State.divide_next.1 h).2]; exact .pair _ _ hy

theorem State.divideCc_effect {f : Word → Word → BitVec 64} (hy : WritesY i) (hf : WritesFlags i)
    (h : s.divideCc rd rs1 src f = .next t) : Effect i s t := by
  rw [(State.divideCc_next.1 h).2]; exact .pairFreeFlags _ _ hy hf

theorem State.load_effect {n : Nat} {ext : Word → Word} (h : s.load rd rs1 src n ext = .next t) : Effect i s t := by
  rw [(State.load_next.1 h).2]; exact .reg ..

theorem State.store_effect {n : Nat} (hm : WritesMemory i) (h : s.store rd rs1 src n = .next t) : Effect i s t := by
  obtain ⟨hok, rfl⟩ := State.store_next.1 h
  exact .store _ _ _ hm hok

theorem State.readSpecial_effect {v : Word} (h : s.readSpecial rd v = .next t) : Effect i s t := by
  obtain ⟨-, rfl⟩ | ⟨-, -, rfl⟩ := State.readSpecial_next.1 h
  · exact .reg ..
  · exact .idle

/-- A gated write has the effect of the write, or none. -/
theorem State.whenSupervisor_effect {u : State} (hu : Effect i s u) (h : s.whenSupervisor u = .next t) :
    Effect i s t := by
  obtain ⟨-, rfl⟩ | ⟨-, rfl⟩ := State.whenSupervisor_next.1 h
  · exact hu
  · exact .idle

theorem State.branch_effect {cond : BitVec 4} {a : BitVec 1} {disp22 : BitVec 22} (hi : IsBicc (encode i))
    (h : s.branch cond a disp22 = .next t) : Effect i s t := by
  obtain ⟨-, rfl⟩ | ⟨-, -, rfl⟩ | ⟨-, -, rfl⟩ := State.branch_next.1 h
  · have := Effect.transfer (s := s) 0#5 0#32 _ true (.inl hi) fun hpc =>
      aligned_add hpc (aligned_shiftLeft_two (disp22.signExtend 32))
    rwa [State.writeReg_zero] at this
  · exact .annul hi
  · exact .idle

end Templates

/-- A doubleword access that does not fault has passed the checks of both words (rules R210, R273). -/
theorem State.doubleFault_eq_none {s : State} {ea : Word} {kind : AccessKind} :
    s.doubleFault ea kind = none ↔
      s.misaligned ea 8 = false ∧ s.accessFault ea 4 kind = none ∧ s.accessFault (ea + 4#32) 4 kind = none := by
  generalize hea : ea + 4#32 = ea'
  simp only [State.doubleFault, hea]
  cases s.misaligned ea 8 <;> cases s.accessFault ea 4 kind <;> simp

/-- `LDD` completes with an even `rd` and both words read (rule R214). -/
theorem execLdd_next {rd rs1 : RegNum} {src : Operand2} {s t : State} :
    execLdd rd rs1 src s = .next t ↔
      rd.getLsbD 0 = false ∧ s.doubleFault (s.effAddr rs1 src) .read = none ∧
      t = (s.writeReg rd (s.mem.readBE (s.effAddr rs1 src).toNat 4)).writeReg (rd + 1#5)
        (s.mem.readBE (s.effAddr rs1 src + 4#32).toNat 4) := by
  simp only [execLdd, State.raiseIllegal]
  cases rd.getLsbD 0 <;> cases s.doubleFault (s.effAddr rs1 src) .read <;> simp [eq_comm]

/-- `STD` completes with an even `rd` and both words written (rule R218). -/
theorem execStd_next {rd rs1 : RegNum} {src : Operand2} {s t : State} :
    execStd rd rs1 src s = .next t ↔
      rd.getLsbD 0 = false ∧ s.doubleFault (s.effAddr rs1 src) .write = none ∧
      t = (s.storeBytes (s.effAddr rs1 src) 4 (s.readReg rd)).storeBytes (s.effAddr rs1 src + 4#32) 4
        (s.readReg (rd + 1#5)) := by
  simp only [execStd, State.raiseIllegal]
  cases rd.getLsbD 0 <;> cases s.doubleFault (s.effAddr rs1 src) .write <;> simp [eq_comm]

theorem isBicc_encodeBranch (a : BitVec 1) (cond : BitVec 4) (disp22 : BitVec 22) :
    IsBicc (encodeBranch 2#3 a cond disp22) := ⟨by simp, by simp⟩

/-- Every instruction that completes has one of the effects; the instructions of each group share an operation, and the
last group holds those that fault whatever the state. -/
theorem exec_effect {i : Instr} {s t : State} (h : exec i s = .next t) : Effect i s t := by
  cases i with simp only [exec] at h
  | halt0 => cases h; exact .halt
  | bn | be | ble | bl | bleu | bcs | bneg | bvs | ba | bne | bg | bge | bgu | bcc | bpos | bvc =>
    exact State.branch_effect (isBicc_encodeBranch _ _ _) h
  | nop | sethi => cases h; exact .reg ..
  | call disp30 =>
    cases h
    exact .transfer _ _ _ _ (.inr (.inl (fieldOp_encode_call disp30))) fun hpc =>
      aligned_add hpc (aligned_shiftLeft_two _)
  | jmpl rd rs1 src =>
    cases h
    exact .transfer _ _ _ _ (.inr (.inr ⟨fieldOp_encodeFormat3 .., fieldOp3_encodeFormat3 ..⟩)) fun _ =>
      aligned_shiftLeft_two _
  | add | and | or | xor | sub | andn | orn | xnor | addx | subx | sll | srl | sra => exact State.alu_effect h
  | addcc rd rs1 src | addxcc rd rs1 src | subcc rd rs1 src | subxcc rd rs1 src =>
    exact State.aluCc_effect ⟨rd, rs1, src, by simp⟩ h
  | andcc rd rs1 src | andncc rd rs1 src | orcc rd rs1 src | orncc rd rs1 src | xorcc rd rs1 src | xnorcc rd rs1 src =>
    exact State.logicCc_effect ⟨rd, rs1, src, by simp⟩ h
  | umul rd rs1 src | smul rd rs1 src => exact State.multiply_effect ⟨rd, rs1, src, by simp⟩ h
  | umulcc rd rs1 src | smulcc rd rs1 src =>
    exact State.multiplyCc_effect ⟨rd, rs1, src, by simp⟩ ⟨rd, rs1, src, by simp⟩ h
  | udiv rd rs1 src | sdiv rd rs1 src => exact State.divide_effect ⟨rd, rs1, src, by simp⟩ h
  | udivcc rd rs1 src | sdivcc rd rs1 src =>
    exact State.divideCc_effect ⟨rd, rs1, src, by simp⟩ ⟨rd, rs1, src, by simp⟩ h
  | rdy | rdpsr | rdwim | rdtbr => exact State.readSpecial_effect h
  | wry rd rs1 src => exact State.whenSupervisor_effect (.wry _ ⟨rd, rs1, src, by simp⟩) h
  | wrpsr rd rs1 src => exact State.whenSupervisor_effect (.wrpsr _ ⟨rd, rs1, src, by simp⟩) h
  | wrwim rd rs1 src => exact State.whenSupervisor_effect (.wrwim _ ⟨rd, rs1, src, rfl⟩) h
  | wrtbr rd rs1 src => exact State.whenSupervisor_effect (.wrtbr _ ⟨rd, rs1, src, rfl⟩) h
  | save => cases h; exact .save _ _ _ _ rfl
  | restore => cases h; exact .restore _ _ _ _ rfl
  | ld | ldub | lduh | ldsb | ldsh => exact State.load_effect h
  | ldd =>
    obtain ⟨-, -, rfl⟩ := execLdd_next.1 h
    exact .regTwice ..
  | st rd rs1 src | stb rd rs1 src | sth rd rs1 src => exact State.store_effect ⟨rd, rs1, src, by simp⟩ h
  | std rd rs1 src =>
    obtain ⟨-, hok, rfl⟩ := execStd_next.1 h
    obtain ⟨-, hok1, hok2⟩ := State.doubleFault_eq_none.1 hok
    exact .storeTwice _ _ _ _ ⟨rd, rs1, src, by simp⟩ hok1 hok2
  | fbfcc | cbccc | fpop1 | fpop2 | cpop1 | cpop2 | ldf | ldfsr | lddf | stf | stfsr | stdfq | stdf | ldc | ldcsr
  | lddc | stc | stcsr | stdcq | stdc => cases h; exact .idle
  | _ => nomatch h

/-! ## The condition codes (rule R24) -/

/-- A rotation writes `PSR.CWP` and no other bit of `PSR`. -/
theorem State.getLsbD_psr_rotate (s : State) (d : Rotation) {k : Nat} (hk : 5 ≤ k) :
    (s.rotate d).psr.getLsbD k = s.psr.getLsbD k := by
  rw [State.rotate_psr, FieldSpec.set, getLsbD_setField, if_neg]
  simp only [psrCwp]
  omega

theorem State.icc_rotate (s : State) (d : Rotation) : (s.rotate d).icc = s.icc := by
  have hbit : ∀ k, 5 ≤ k → (s.rotate d).psr.getLsbD k = s.psr.getLsbD k := fun _ => s.getLsbD_psr_rotate d
  simp only [State.icc, hbit 23 (by decide), hbit 22 (by decide), hbit 21 (by decide), hbit 20 (by decide)]

/-! ## What each effect leaves of one piece of state -/

section Frame
variable {i : Instr} {s t : State}

theorem exec_icc (h : exec i s = .next t) (hne : t.icc ≠ s.icc) : WritesFlags i := by
  cases exec_effect h with
  | regFlags _ _ _ hf | pairFlags _ _ _ _ hf | pairFreeFlags _ _ _ hf | wrpsr _ hf => exact hf
  | save | restore => exact absurd (s.icc_rotate _) hne
  | _ => exact absurd rfl hne

theorem exec_cfg (h : exec i s = .next t) : t.cfg = s.cfg := by
  cases exec_effect h <;> rfl

theorem exec_fsr (h : exec i s = .next t) : t.fsr = s.fsr := by
  cases exec_effect h <;> rfl

theorem exec_npc (h : exec i s = .next t) : t.npc = s.npc := by
  cases exec_effect h <;> rfl

theorem exec_y (h : exec i s = .next t) (hne : t.y ≠ s.y) : WritesY i := by
  cases exec_effect h with
  | pair _ _ hy | pairFlags _ _ _ hy | pairFreeFlags _ _ hy | wry _ hy => exact hy
  | _ => exact absurd rfl hne

theorem exec_tbr (h : exec i s = .next t) (hne : t.tbr ≠ s.tbr) : ∃ rd rs1 src, i = .wrtbr rd rs1 src := by
  cases exec_effect h with
  | wrtbr _ hi => exact hi
  | _ => exact absurd rfl hne

theorem exec_wim (h : exec i s = .next t) (hne : t.wim ≠ s.wim) :
    Rotates i ∨ ∃ rd rs1 src, i = .wrwim rd rs1 src := by
  cases exec_effect h with
  | save rd rs1 src _ hi | restore rd rs1 src _ hi => exact .inl ⟨rd, rs1, src, by simp [hi]⟩
  | wrwim _ hi => exact .inr hi
  | _ => exact absurd rfl hne

theorem exec_psr (h : exec i s = .next t) (hne : t.psr ≠ s.psr) : WritesFlags i ∨ Rotates i := by
  cases exec_effect h with
  | regFlags _ _ _ hf | pairFlags _ _ _ _ hf | pairFreeFlags _ _ _ hf | wrpsr _ hf => exact .inl hf
  | save rd rs1 src _ hi | restore rd rs1 src _ hi => exact .inr ⟨rd, rs1, src, by simp [hi]⟩
  | _ => exact absurd rfl hne

theorem exec_pc (h : exec i s = .next t) (hne : t.pc ≠ s.pc) : IsBicc (encode i) ∧ t.pc = s.pc + 4#32 := by
  cases exec_effect h with
  | annul hi => exact ⟨hi, rfl⟩
  | _ => exact absurd rfl hne

theorem exec_latches (h : exec i s = .next t)
    (hne : (t.branchPending, t.executeDelaySlot, t.branchTarget) ≠
      (s.branchPending, s.executeDelaySlot, s.branchTarget)) : IsTransfer (encode i) := by
  cases exec_effect h with
  | transfer _ _ _ _ hi => exact hi
  | _ => exact absurd rfl hne

/-- `WOVF` changes only by `SAVE`, which never clears it (rules R29, R241). -/
theorem exec_wovf (h : exec i s = .next t) :
    t.wovf = s.wovf ∨ (s.wovf = false ∧ ∃ rd rs1 src, i = .save rd rs1 src) := by
  cases exec_effect h with
  | save rd rs1 src _ hi =>
    cases hw : s.wovf with
    | true => exact .inl (by simp [State.rotate, hw])
    | false => exact .inr ⟨rfl, rd, rs1, src, hi⟩
  | restore => exact .inl (by simp [State.rotate])
  | _ => exact .inl rfl

/-- `WUNF` changes only by `RESTORE`, which never clears it (rules R29, R241). -/
theorem exec_wunf (h : exec i s = .next t) :
    t.wunf = s.wunf ∨ (s.wunf = false ∧ ∃ rd rs1 src, i = .restore rd rs1 src) := by
  cases exec_effect h with
  | restore rd rs1 src _ hi =>
    cases hw : s.wunf with
    | true => exact .inl (by simp [State.rotate, hw])
    | false => exact .inr ⟨rfl, rd, rs1, src, hi⟩
  | save => exact .inl (by simp [State.rotate])
  | _ => exact .inl rfl

/-- What stays or was clear before is still set if it was set. -/
theorem eq_true_of_sticky {a b : Bool} {p : Prop} (h : b = a ∨ (a = false ∧ p)) (ha : a = true) : b = true := by
  obtain heq | ⟨hclear, -⟩ := h
  · exact heq.trans ha
  · exact absurd (hclear.symm.trans ha) (by decide)

end Frame

end Sys2Proof.Machine

namespace Sys2Proof

/-! ## The words of the window instructions (rule R74) -/

/-- The `op3` of an instruction that rotates the window. -/
def Instr.windowOp3 : Instr → Option (BitVec 6)
  | .save .. => some 0x3C#6
  | .restore .. => some 0x3D#6
  | _ => none

theorem windowOp3_decodeBicc (cond : BitVec 4) (a : BitVec 1) (disp22 : BitVec 22) :
    (decodeBicc cond a disp22).windowOp3 = none := by
  unfold decodeBicc
  split <;> rfl

theorem windowOp3_decodeFormat2 (w : Word) : (decodeFormat2 w).windowOp3 = none := by
  unfold decodeFormat2
  split
  case h_1 | h_5 => split <;> rfl
  case h_3 => exact windowOp3_decodeBicc ..
  all_goals rfl

theorem windowOp3_decodeMem (w : Word) : (decodeMem w).windowOp3 = none := by
  unfold decodeMem
  split <;> rfl

theorem fieldOp3_of_windowOp3_decodeArith {w : Word} {k : BitVec 6} (h : (decodeArith w).windowOp3 = some k) :
    fieldOp3 w = k := by
  unfold decodeArith at h
  split at h <;> simp_all [Instr.windowOp3]

/-- Only a word with `op = 2` and its `op3` decodes to an instruction that rotates the window. -/
theorem fields_of_windowOp3_decodeWord {w : Word} {k : BitVec 6} (h : (decodeWord w).windowOp3 = some k) :
    fieldOp w = 2#2 ∧ fieldOp3 w = k := by
  unfold decodeWord at h
  split at h
  · rw [windowOp3_decodeFormat2] at h; cases h
  · cases h
  case h_3 hop => exact ⟨hop, fieldOp3_of_windowOp3_decodeArith h⟩
  · rw [windowOp3_decodeMem] at h; cases h

/-! ## The fields that a mask keeps -/

section Masks
variable (w m : Word)

theorem fieldOp_and : fieldOp (w &&& m) = fieldOp w &&& fieldOp m := BitVec.extractLsb'_and
theorem fieldOp2_and : fieldOp2 (w &&& m) = fieldOp2 w &&& fieldOp2 m := BitVec.extractLsb'_and
theorem fieldOp3_and : fieldOp3 (w &&& m) = fieldOp3 w &&& fieldOp3 m := BitVec.extractLsb'_and

/-- The mask `0xC1F80000` keeps `op` and `op3`. -/
theorem fields_and_maskOp3 :
    (fieldOp (w &&& 0xC1F80000#32), fieldOp3 (w &&& 0xC1F80000#32)) = (fieldOp w, fieldOp3 w) := by
  rw [fieldOp_and, fieldOp3_and, show fieldOp 0xC1F80000#32 = BitVec.allOnes 2 by decide,
    show fieldOp3 0xC1F80000#32 = BitVec.allOnes 6 by decide, BitVec.and_allOnes, BitVec.and_allOnes]

/-- The mask `0xC1C00000` keeps `op` and `op2`. -/
theorem fields_and_maskOp2 :
    (fieldOp (w &&& 0xC1C00000#32), fieldOp2 (w &&& 0xC1C00000#32)) = (fieldOp w, fieldOp2 w) := by
  rw [fieldOp_and, fieldOp2_and, show fieldOp 0xC1C00000#32 = BitVec.allOnes 2 by decide,
    show fieldOp2 0xC1C00000#32 = BitVec.allOnes 3 by decide, BitVec.and_allOnes, BitVec.and_allOnes]

end Masks

end Sys2Proof

namespace Sys2Proof.Machine

/-! ## The words that write no general register (rule R17) -/

/-- The fields of a no-op word (rules R251 to R253). -/
theorem fields_of_isNoOp {w : Word} (h : IsNoOp w) :
    (fieldOp w, fieldOp3 w) ∈ [(2#2, 0x34#6), (2#2, 0x35#6), (2#2, 0x36#6), (2#2, 0x37#6), (3#2, 0x20#6),
      (3#2, 0x21#6), (3#2, 0x23#6), (3#2, 0x24#6), (3#2, 0x25#6), (3#2, 0x26#6), (3#2, 0x27#6), (3#2, 0x30#6),
      (3#2, 0x31#6), (3#2, 0x33#6), (3#2, 0x34#6), (3#2, 0x35#6), (3#2, 0x36#6), (3#2, 0x37#6)] ∨
    (fieldOp w, fieldOp2 w) ∈ [(0#2, 6#3), (0#2, 7#3)] := by
  rw [← fields_and_maskOp3, ← fields_and_maskOp2]
  exact h.imp (List.mem_map_of_mem (f := fun c => (fieldOp c, fieldOp3 c)))
    (List.mem_map_of_mem (f := fun c => (fieldOp c, fieldOp2 c)))

/-- A no-op word changes nothing (rules R250 to R253); every other instruction has other fields. -/
theorem exec_of_isNoOp {i : Instr} (hi : IsNoOp (encode i)) (s : State) : exec i s = .next s := by
  have hfields := fields_of_isNoOp hi
  cases i with
  | fbfcc | cbccc | fpop1 | fpop2 | cpop1 | cpop2 | ldf | ldfsr | lddf | stf | stfsr | stdfq | stdf | ldc | ldcsr
  | lddc | stc | stcsr | stdcq | stdc => rfl
  | halt0 | nop => exact absurd hfields (by decide)
  | call => simp at hfields
  | _ => simp [encode] at hfields

/-- A `Bicc` word branches (rules R70, R170); every other instruction has other fields. -/
theorem exec_of_isBicc {i : Instr} (hi : IsBicc (encode i)) (s : State) :
    exec i s = s.branch (fieldCond (encode i)) (fieldA (encode i)) (fieldImm22 (encode i)) := by
  obtain ⟨hop, hop2⟩ := hi
  cases i with
  | bn | be | ble | bl | bleu | bcs | bneg | bvs | ba | bne | bg | bge | bgu | bcc | bpos | bvc =>
    simp only [encode, fieldCond_encodeBranch, fieldA_encodeBranch, fieldImm22_encodeBranch]
    rfl
  | halt0 | nop => exact absurd hop2 (by decide)
  | call => simp at hop
  | _ => simp [encode] at hop hop2

/-- A store writes memory and nothing else (rule R43). -/
theorem exec_of_writesMemory {i : Instr} {s t : State} (hi : WritesMemory i) (h : exec i s = .next t) :
    t = { s with mem := t.mem } := by
  obtain ⟨rd, rs1, src, hmem⟩ := hi
  simp only [List.mem_cons, List.not_mem_nil, or_false] at hmem
  obtain rfl | rfl | rfl | rfl := hmem <;> simp only [exec] at h
  case inr.inr.inr =>
    obtain ⟨-, -, rfl⟩ := execStd_next.1 h
    rfl
  all_goals
    obtain ⟨-, rfl⟩ := State.store_next.1 h
    rfl

/-- A branch writes no register cell, taken or not (rule R170). -/
theorem State.branch_regs {s t : State} {cond : BitVec 4} {a : BitVec 1} {disp22 : BitVec 22}
    (h : s.branch cond a disp22 = .next t) : t.regs = s.regs := by
  obtain ⟨-, rfl⟩ | ⟨-, -, rfl⟩ | ⟨-, -, rfl⟩ := State.branch_next.1 h <;> rfl

/-- A gated write keeps the register file if the write does. -/
theorem State.whenSupervisor_regs {s t u : State} (hu : u.regs = s.regs) (h : s.whenSupervisor u = .next t) :
    t.regs = s.regs := by
  obtain ⟨-, rfl⟩ | ⟨-, rfl⟩ := State.whenSupervisor_next.1 h
  · exact hu
  · rfl

/-! ## The cells that the machine does not have (rule R11) -/

/-- The clause of `State.Inv` about the storage beyond `W` windows. -/
def State.NoPhantom (s : State) : Prop := ∀ q : PhysReg, ¬ q.exists s.cfg.windows → s.regs.get q = 0#32

theorem State.NoPhantom.writeReg {s : State} (hs : s.NoPhantom) (hl : s.cfg.legal = true) (n : RegNum) (v : Word) :
    (s.writeReg n v).NoPhantom := by
  intro q hq
  rw [State.writeReg_regs, RegFile.get_write, if_neg]
  · exact hs q hq
  · exact fun hcell => hq (State.exists_of_cellOf hl hcell)

/-! ## The memory a store leaves (rules R40, R43) -/

/-- A transaction that passes its checks lies inside memory (rule R44). -/
theorem State.le_memSize_of_accessFault {s : State} {a : Word} {n : Nat} {kind : AccessKind}
    (h : s.accessFault a n kind = none) : a.toNat + n ≤ s.cfg.memSize := by
  by_contra hlt
  rw [State.accessFault_cases, if_pos (Nat.not_le.1 hlt)] at h
  split at h <;> cases h

/-- The clauses of `State.Inv` about memory. -/
def State.MemoryOk (s : State) : Prop := s.mem.wf = true ∧ s.mem.within s.cfg.memSize = true

theorem State.MemoryOk.storeBytes {s : State} (hs : s.MemoryOk) {a : Word} {n : Nat} {kind : AccessKind} (v : Word)
    (h : s.accessFault a n kind = none) : (s.storeBytes a n v).MemoryOk :=
  ⟨Memory.wf_writeBE _ _ _ hs.1, Memory.within_writeBE _ _ hs.2 (State.le_memSize_of_accessFault h)⟩

/-! ## What the instruction's own effect keeps -/

section Exec
variable {i : Instr} {s t : State}

theorem exec_noPhantom (hl : s.cfg.legal = true) (hs : s.NoPhantom) (h : exec i s = .next t) : t.NoPhantom := by
  have hw : ∀ n v, (s.writeReg n v).NoPhantom := hs.writeReg hl
  cases exec_effect h with
  | reg rd v | regFlags rd v | transfer rd v => exact hw rd v
  | regTwice rd rd' v v' => exact (hw rd v).writeReg hl rd' v'
  | pair rd p | pairFlags rd p | pairFreeFlags rd p => exact hw rd (pairLow p)
  | save rd rs1 src v => exact State.NoPhantom.writeReg (s := s.rotate .save) hs hl rd v
  | restore rd rs1 src v => exact State.NoPhantom.writeReg (s := s.rotate .restore) hs hl rd v
  | _ => exact hs

theorem exec_memoryOk (hs : s.MemoryOk) (h : exec i s = .next t) : t.MemoryOk := by
  cases exec_effect h with
  | store _ _ v _ hok => exact hs.storeBytes v hok
  | storeTwice _ _ v v' _ hok hok' =>
    exact (hs.storeBytes v hok).storeBytes (s := s.storeBytes _ 4 v) v' hok'
  | _ => exact hs

theorem exec_aligned_pc (hs : s.pc.toNat % 4 = 0) (h : exec i s = .next t) : t.pc.toNat % 4 = 0 := by
  by_cases heq : t.pc = s.pc
  · rw [heq]; exact hs
  · rw [(exec_pc h heq).2]; exact aligned_add_four hs

/-- An instruction either leaves the latches or decides a transfer to an aligned target (rules R22, R28). -/
theorem exec_latch_cases (h : exec i s = .next t) :
    (t.branchPending = s.branchPending ∧ t.executeDelaySlot = s.executeDelaySlot ∧ t.branchTarget = s.branchTarget) ∨
    (t.branchPending = true ∧ (s.pc.toNat % 4 = 0 → t.branchTarget.toNat % 4 = 0)) := by
  cases exec_effect h with
  | transfer _ _ _ _ _ hal => exact .inr ⟨rfl, hal⟩
  | _ => exact .inl ⟨rfl, rfl, rfl⟩

/-- Only the zero word makes `live` false, and it writes nothing else (rule R163). -/
theorem exec_live_cases (h : exec i s = .next t) : t.live = s.live ∨ t = { s with live := false } := by
  cases exec_effect h with
  | halt => exact .inr rfl
  | _ => exact .inl rfl

end Exec

/-! ## What the next-nPC phase leaves (rules R164, R165) -/

section NextNpc
variable {s : State}

theorem State.nextNpcPhase_of_idle (hp : s.branchPending = false) :
    s.nextNpcPhase = { s with npc := s.pc + 4#32 } := by
  simp [State.nextNpcPhase, hp]

theorem State.nextNpcPhase_of_delaySlot (hp : s.branchPending = true) (hd : s.executeDelaySlot = true) :
    s.nextNpcPhase = { s with npc := s.pc + 4#32, executeDelaySlot := false } := by
  simp [State.nextNpcPhase, hp, hd]

theorem State.nextNpcPhase_of_pending (hp : s.branchPending = true) (hd : s.executeDelaySlot = false) :
    s.nextNpcPhase = { s with npc := s.branchTarget, branchPending := false } := by
  simp [State.nextNpcPhase, hp, hd]

end NextNpc

/-- The control state between steps: an aligned `nPC`, no delay slot to come, an aligned pending target. -/
structure State.ControlOk (s : State) : Prop where
  aligned : s.npc.toNat % 4 = 0
  latch : s.executeDelaySlot = false
  target : s.branchPending = true → s.branchTarget.toNat % 4 = 0

/-- The phase comes out between steps, whichever of the three latch combinations it starts from. -/
theorem State.controlOk_nextNpcPhase {s : State} (hpc : s.pc.toNat % 4 = 0)
    (hidle : s.branchPending = false → s.executeDelaySlot = false)
    (htarget : s.branchPending = true → s.branchTarget.toNat % 4 = 0) : s.nextNpcPhase.ControlOk := by
  cases hp : s.branchPending with
  | false =>
    rw [State.nextNpcPhase_of_idle hp]
    exact ⟨aligned_add_four hpc, hidle hp, htarget⟩
  | true =>
    cases hd : s.executeDelaySlot with
    | true =>
      rw [State.nextNpcPhase_of_delaySlot hp hd]
      exact ⟨aligned_add_four hpc, rfl, htarget⟩
    | false =>
      rw [State.nextNpcPhase_of_pending hp hd]
      exact ⟨htarget hp, hd, fun h => nomatch h⟩

/-- A step that completes leaves the control state as it must be between steps, halting or not. -/
theorem step_controlOk {s t : State} (hs : s.ControlOk) (h : step s = .next t) : t.ControlOk := by
  obtain ⟨-, u, hexec, rfl⟩ := step_next.1 h
  obtain hlive | rfl := exec_live_cases hexec
  · have hend : u.endStep = u.nextNpcPhase := if_pos hlive
    rw [hend]
    have hpc : u.pc.toNat % 4 = 0 := exec_aligned_pc hs.aligned hexec
    obtain ⟨hp, hd, htgt⟩ | ⟨hp, htgt⟩ := exec_latch_cases hexec
    · exact State.controlOk_nextNpcPhase hpc (fun _ => hd.trans hs.latch)
        fun hpend => htgt ▸ hs.target (hp.symm.trans hpend)
    · exact State.controlOk_nextNpcPhase hpc (fun hidle => absurd (hp.symm.trans hidle) (by decide))
        fun _ => htgt hs.aligned
  · exact ⟨hs.aligned, hs.latch, hs.target⟩

/-- `State.Inv`, part by part. -/
theorem State.inv_iff (s : State) :
    s.Inv ↔ s.cfg.legal = true ∧ s.MemoryOk ∧ s.ControlOk ∧ s.NoPhantom :=
  ⟨fun ⟨hl, hm, hb, ha, hd, ht, hp⟩ => ⟨hl, ⟨hm, hb⟩, ⟨ha, hd, ht⟩, hp⟩,
    fun ⟨hl, ⟨hm, hb⟩, ⟨ha, hd, ht⟩, hp⟩ => ⟨hl, hm, hb, ha, hd, ht, hp⟩⟩

/-! ## Rotations one after another (rules R15, R240, R241) -/

/-- `RESTORE` enters the window that `SAVE` left. -/
theorem Rotation.target_restore_save {w k : Nat} (h : k < w) :
    Rotation.target .restore w (Rotation.target .save w k) = k := by
  simp only [Rotation.target]
  obtain hlast | hnext := Nat.lt_or_ge (k + 1) w |>.symm
  · have hk : k + 1 = w := by omega
    rw [hk, Nat.mod_self, Nat.zero_add, Nat.mod_eq_of_lt (by omega)]
    omega
  · rw [Nat.mod_eq_of_lt hnext, show k + 1 + w - 1 = k + w by omega, Nat.add_mod_right, Nat.mod_eq_of_lt h]

/-- `save %g0, %g0, %g0` and `restore %g0, %g0, %g0` only rotate: the sum is discarded. -/
theorem execSave_zero (s : State) (src : Operand2) : exec (.save 0#5 0#5 src) s = .next (s.rotate .save) :=
  congrArg Host.Outcome.next (State.writeReg_zero _ _)

theorem execRestore_zero (s : State) (src : Operand2) : exec (.restore 0#5 0#5 src) s = .next (s.rotate .restore) :=
  congrArg Host.Outcome.next (State.writeReg_zero _ _)

theorem getLsbD_setBit_same (v : Word) {k : Nat} (h : k < 32) : (setBit v k).getLsbD k = true := by
  simp [setBit, h]

/-- A `SAVE` in the last window wraps, so it finds the `WIM` bit it has just set (rule R241, decision D24). -/
theorem State.wovf_rotate_save_of_wraps {s : State} (h : s.cwp + 1 = s.cfg.windows) : (s.rotate .save).wovf = true := by
  have hbit : (setBit s.wim 0).getLsbD 0 = true := getLsbD_setBit_same _ (by decide)
  have hnew : Rotation.target .save s.cfg.windows s.cwp = 0 := by rw [Rotation.target, h, Nat.mod_self]
  have hwraps : Rotation.wraps .save s.cfg.windows s.cwp = true := by rw [Rotation.wraps, h, beq_self_eq_true]
  simp only [State.rotate, hnew, hwraps, if_true, hbit, Bool.and_true, beq_self_eq_true, Bool.or_true]

/-- A rotation by `SAVE` does not clear `WOVF` (rule R29). -/
theorem State.wovf_rotate_save_of_wovf {s : State} (h : s.wovf = true) : (s.rotate .save).wovf = true := by
  simp [State.rotate, h]

/-- After `k` pure saves the window is `k` further on the ring, no cell has changed, and `WOVF` is set if it was or if
the end of the ring was passed. -/
theorem saveTimes_spec (k : Nat) (s : State) (hl : s.cfg.legal = true) :
    ∃ t, Claims.saveTimes k s = .next t ∧ t.cwp = (s.cwp + k) % s.cfg.windows ∧ t.regs = s.regs ∧
      (s.wovf = true ∨ s.cfg.windows ≤ s.cwp + k → t.wovf = true) := by
  have hlt := State.cwp_lt_windows hl
  induction k generalizing s with
  | zero => exact ⟨s, rfl, (Nat.mod_eq_of_lt hlt).symm, rfl, fun h => h.resolve_right (by omega)⟩
  | succ k ih =>
    have hcwp : (s.rotate .save).cwp = (s.cwp + 1) % s.cfg.windows := State.cwp_rotate hl .save
    obtain ⟨t, hrun, htcwp, htregs, htovf⟩ := ih (s.rotate .save) hl (State.cwp_lt_windows (s := s.rotate .save) hl)
    refine ⟨t, ?_, ?_, htregs, fun hor => htovf ?_⟩
    · rw [Claims.saveTimes, execSave_zero]
      exact hrun
    · rw [htcwp, hcwp, State.rotate_cfg, Nat.mod_add_mod, Nat.add_right_comm, Nat.add_assoc]
    · by_cases hwrap : s.cwp + 1 = s.cfg.windows
      · exact .inl (State.wovf_rotate_save_of_wraps hwrap)
      · rw [hcwp, Nat.mod_eq_of_lt (by omega)]
        exact hor.imp State.wovf_rotate_save_of_wovf fun hle => by simp only [State.rotate_cfg]; omega

end Sys2Proof.Machine

namespace Sys2Proof.Proofs

open Sys2Proof Sys2Proof.Machine Sys2Proof.Claims

/-- Settles O5: the four groups of rule R12, each read through its cell. -/
theorem registerMap : Obligations.RegisterMap := by
  intro s i w
  have hi : i.val < 8 := i.isLt
  have hidx : ∀ k, k % 8 = i.val → Fin.ofNat 8 k = i := fun k hk => Fin.ext hk
  have hnum : ∀ k, k < 32 → (BitVec.ofNat 5 k).toNat = k := fun k hk => by
    rw [BitVec.toNat_ofNat]; omega
  refine ⟨s.readReg_zero, fun h0 => ?_, fun hw => ⟨?_, ?_⟩, fun hw => ?_⟩
  · have hn := hnum i.val (by omega)
    have hne : BitVec.ofNat 5 i.val ≠ 0#5 := fun e => h0 (Fin.ext (by rw [← hn, e]; rfl))
    rw [State.readReg_of_cellOf (physReg_global _ _ hne (by omega)), hn, hidx _ (by omega)]
    rfl
  · have hn := hnum (8 + i.val) (by omega)
    rw [State.readReg_of_cellOf (physReg_out _ _ (by omega) (by omega)), hn, hidx _ (by omega), s.cwp_eq,
      windowIndex_eq hw]
    rfl
  · have hn := hnum (16 + i.val) (by omega)
    rw [State.readReg_of_cellOf (physReg_local _ _ (by omega) (by omega)), hn, hidx _ (by omega), s.cwp_eq,
      windowIndex_eq hw]
    rfl
  · have hn := hnum (24 + i.val) (by omega)
    rw [State.readReg_of_cellOf (physReg_in _ _ (by omega)), hn, hidx _ (by omega), s.cwp_eq, windowIndex_eq hw]
    rfl

/-- Settles O6: a write through the name of a cell, and the reads after it. -/
theorem registerWrite : Obligations.RegisterWrite := by
  intro s n v
  refine ⟨rfl, ?_, fun h0 => ?_, fun h24 w i hw hn => ?_⟩
  · rintro rfl
    exact s.writeReg_zero v
  · obtain ⟨p, hp⟩ := s.exists_cellOf h0
    have hget : ∀ q, (s.writeReg n v).regs.get q = if s.cellOf n = some q then v else s.regs.get q :=
      RegFile.get_write _ _ _
    have hsame : (s.writeReg n v).regs.get p = v := by rw [hget, if_pos hp]
    refine ⟨(State.readReg_of_cellOf (s := s.writeReg n v) hp).trans hsame, p, hp, hsame, fun q hq => ?_⟩
    rw [hget, if_neg]
    exact fun hcell => hq (Option.some.inj (hcell.symm.trans hp))
  · have hi : Fin.ofNat 8 n.toNat = i := Fin.ext (by have := i.isLt; show n.toNat % 8 = _; omega)
    have hcell : s.cellOf n = some (.o w i) := by
      rw [State.cellOf, physReg_in _ _ h24, hi, windowIndex_eq hw]
    show (s.writeReg n v).regs.get (.o w i) = v
    rw [State.writeReg_regs, RegFile.get_write, if_pos hcell]

/-- Settles O56: the reset state has the default parameters, no listed byte and zero cells. -/
theorem resetMeetsInvariant : Obligations.ResetMeetsInvariant where
  config := by decide
  memory := Memory.wf_reset
  bounds := rfl
  aligned := rfl
  latch := rfl
  target := by decide
  phantom q _ := by cases q <;> simp [State.reset, RegFile.reset, RegFile.get]

/-- Settles O45: the effects that touch `PSR` are the `cc` forms, `WRPSR` and the rotations, and these keep the
condition codes. -/
theorem flagWriters : Obligations.FlagWriters :=
  fun _ _ _ h hne => exec_icc h hne

/-- Settles O47, class by class of rule R17. -/
theorem registerWriters : Obligations.RegisterWriters := by
  rintro i s t (rfl | hi | hi | hi | ⟨rd, rs1, src, hi⟩) h
  · cases h; rfl
  · exact State.branch_regs ((exec_of_isBicc hi s).symm.trans h)
  · rw [exec_of_writesMemory hi h]
  · cases (exec_of_isNoOp hi s).symm.trans h; rfl
  · simp only [List.mem_cons, List.not_mem_nil, or_false] at hi
    obtain rfl | rfl | rfl | rfl := hi <;> simp only [exec] at h <;> exact State.whenSupervisor_regs (by rfl) h

/-- Settles O48, one lemma for each piece of state. -/
theorem specialRegisterWriters : Obligations.SpecialRegisterWriters :=
  fun _ _ _ h => ⟨exec_cfg h, exec_fsr h, exec_npc h, exec_y h, exec_tbr h, exec_wim h, exec_psr h, exec_pc h,
    exec_latches h⟩

/-- Settles O49: the step's phases keep the indicators, and the word fetched is the one executed. -/
theorem indicatorsSticky : Obligations.IndicatorsSticky := by
  intro s t h
  obtain ⟨-, u, hexec, rfl⟩ := step_next.1 h
  have hovf := exec_wovf hexec
  have hunf := exec_wunf hexec
  simp only [State.beginStep_wovf, State.beginStep_wunf] at hovf hunf
  simp only [State.endStep_wovf, State.endStep_wunf]
  refine ⟨eq_true_of_sticky hovf, eq_true_of_sticky hunf, fun w ⟨_, hat⟩ => ?_⟩
  have hword : s.mem.readBE s.npc.toNat 4 = w := (Memory.readBE_four _ _).trans hat
  rw [hword] at hovf hunf
  refine ⟨fun hne => ?_, fun hne => ?_⟩
  · obtain ⟨-, rd, rs1, src, hsave⟩ := hovf.resolve_left hne
    exact fields_of_windowOp3_decodeWord (by rw [hsave]; rfl)
  · obtain ⟨-, rd, rs1, src, hrestore⟩ := hunf.resolve_left hne
    exact fields_of_windowOp3_decodeWord (by rw [hrestore]; rfl)

/-- Settles O55: rotations write no cell, so only the window decides what a name reads. -/
theorem windowRoundTrip : Obligations.WindowRoundTrip := by
  intro s hl
  have hlt := State.cwp_lt_windows hl
  have hsave : (s.rotate .save).cwp = (s.cwp + 1) % s.cfg.windows := State.cwp_rotate hl .save
  refine ⟨⟨s.rotate .save, (s.rotate .save).rotate .restore, execSave_zero _ _, execRestore_zero _ _, rfl, rfl,
    fun n h8 h16 => ?_, fun n => ?_⟩, ?_⟩
  · have hn : (n + 16#5).toNat = n.toNat + 16 := by rw [BitVec.toNat_add]; simp; omega
    have hidx : Fin.ofNat 8 (n + 16#5).toNat = Fin.ofNat 8 n.toNat := Fin.ext (by simp only [Fin.val_ofNat, hn]; omega)
    rw [State.readReg_of_cellOf (physReg_out _ _ h8 h16),
      State.readReg_of_cellOf (s := s) (physReg_in _ _ (by omega)), hidx, hsave, State.rotate_regs]
  · refine State.readReg_congr (s := s) (t := (s.rotate .save).rotate .restore) rfl rfl ?_ n
    rw [State.cwp_rotate (s := s.rotate .save) hl, State.cwp_rotate hl]
    exact Rotation.target_restore_save hlt
  · obtain ⟨t, hrun, hcwp, hregs, hovf⟩ := saveTimes_spec s.cfg.windows s hl
    refine ⟨t, hrun, ?_, hregs, hovf (.inr (Nat.le_add_left _ _))⟩
    rw [hcwp, Nat.add_mod_right, Nat.mod_eq_of_lt hlt]

/-- Settles O57: parameters, memory and cells are kept by the instruction's own effect, which the phases around it do
not touch; the control state is kept by the step as a whole. -/
theorem stepKeepsInvariant : Obligations.StepKeepsInvariant := by
  intro s t hinv h
  obtain ⟨hl, hmem, hctl, hcells⟩ := s.inv_iff.1 hinv
  have hctl' := step_controlOk hctl h
  obtain ⟨-, u, hexec, rfl⟩ := step_next.1 h
  have hcfg : u.cfg = s.cfg := exec_cfg (s := s.beginStep) hexec
  have hmem' : u.MemoryOk := exec_memoryOk (s := s.beginStep) hmem hexec
  have hcells' : u.NoPhantom := exec_noPhantom (s := s.beginStep) hl hcells hexec
  refine (State.inv_iff _).2 ⟨?_, ?_, hctl', ?_⟩
  · rw [State.endStep_cfg, hcfg]; exact hl
  · rw [State.MemoryOk, State.endStep_mem, State.endStep_cfg]; exact hmem'
  · rw [State.NoPhantom, State.endStep_regs, State.endStep_cfg]; exact hcells'

end Sys2Proof.Proofs
end

section
/-! # The memory family: the two ports, who writes memory, and the store that the next fetch sees

Each port is given once as the chain of its two checks and its effect; the bytes come from `Laws/Memory.lean`. -/

namespace Sys2Proof.Machine

/-! ## The two ports, as a chain of checks (rules R42, R43) -/

theorem State.memRead_cases (s : State) (addr : Word) (n : Nat) :
    s.memRead addr n =
      if s.cfg.strictAlign = true ∧ 1 < n ∧ addr.toNat % n ≠ 0 then .error (.memBadAlignment s.pc addr n)
      else if s.cfg.memSize < addr.toNat + n then .error (.memOutOfBounds s.pc addr n .read)
      else .ok (s.mem.readBE addr.toNat n) := by
  have hfault := s.accessFault_cases addr n .read
  split_ifs at hfault ⊢
  · exact State.memRead_eq_error.2 hfault
  · exact State.memRead_eq_error.2 hfault
  · exact State.memRead_eq_ok.2 ⟨hfault, rfl⟩

theorem State.memWrite_cases (s : State) (addr : Word) (n : Nat) (v : Word) :
    s.memWrite addr n v =
      if s.cfg.strictAlign = true ∧ 1 < n ∧ addr.toNat % n ≠ 0 then .error (.memBadAlignment s.pc addr n)
      else if s.cfg.memSize < addr.toNat + n then .error (.memOutOfBounds s.pc addr n .write)
      else .ok (s.storeBytes addr n v) := by
  have hfault := s.accessFault_cases addr n .write
  split_ifs at hfault ⊢
  · exact State.memWrite_eq_error.2 hfault
  · exact State.memWrite_eq_error.2 hfault
  · exact State.memWrite_eq_ok.2 ⟨hfault, rfl⟩

/-! ## Words and halfwords of memory -/

theorem State.readBE_eq_wordAt (s : State) (a : Nat) : s.mem.readBE a 4 = s.wordAt a := Memory.readBE_four _ _

theorem State.readBE_eq_halfAt (s : State) (a : Nat) : s.mem.readBE a 2 = (s.halfAt a).setWidth 32 :=
  Memory.readBE_two _ _

/-- A word stored is the word that stands there. -/
theorem State.wordAt_storeBytes_same (s : State) (addr v : Word) : (s.storeBytes addr 4 v).wordAt addr.toNat = v := by
  have hbyte : ∀ k < 4, (s.storeBytes addr 4 v).mem.readByte (addr.toNat + k) = v.extractLsb' (8 * (4 - 1 - k)) 8 :=
    fun k hk => Memory.readByte_writeBE_inside _ _ _ _ _ hk
  have h0 := hbyte 0 (by decide)
  rw [Nat.add_zero] at h0
  rw [State.wordAt, h0, hbyte 1 (by decide), hbyte 2 (by decide), hbyte 3 (by decide)]
  exact wordOfBytes_bytes v

theorem State.wordAt_congr {s t : State} (h : t.mem = s.mem) (a : Nat) : t.wordAt a = s.wordAt a := by
  simp only [State.wordAt, h]

/-! ## Who writes memory (rule R46) -/

/-- The effects that touch memory are the stores. -/
theorem exec_mem {i : Instr} {s t : State} (h : exec i s = .next t) (hne : t.mem ≠ s.mem) : WritesMemory i := by
  cases exec_effect h with
  | store _ _ _ hm | storeTwice _ _ _ _ hm => exact hm
  | _ => exact absurd rfl hne

/-! ## The step around a plain instruction -/

/-- A step that completes has run the instruction of the word it fetched. -/
theorem exec_of_step_of_fetches {s t : State} {w : Word} (hf : s.fetches w) (h : step s = .next t) :
    ∃ u, exec (decodeWord w) s.beginStep = .next u ∧ t = u.endStep := by
  have hword : s.mem.readBE s.npc.toNat 4 = w := (s.readBE_eq_wordAt _).trans hf.2
  rw [← hword]
  exact (step_next.1 h).2

/-- With no transfer pending, a step that has not halted goes on to the next word (rules R164, R165). -/
theorem State.endStep_of_idle {s : State} (hl : s.live = true) (hp : s.branchPending = false) :
    s.endStep = { s with npc := s.pc + 4#32 } :=
  (if_pos hl).trans (State.nextNpcPhase_of_idle hp)

@[simp] theorem State.effAddr_beginStep (s : State) (rs1 : RegNum) (src : Operand2) :
    s.beginStep.effAddr rs1 src = s.effAddr rs1 src := by
  simp [State.effAddr]

end Sys2Proof.Machine

namespace Sys2Proof.Proofs

open Sys2Proof Sys2Proof.Machine Sys2Proof.Claims

/-- Settles O8: the chain of checks, then the bytes at each of the three widths. -/
theorem memoryReadPort : Obligations.MemoryReadPort := by
  rintro s addr n (rfl | rfl | rfl) <;> rw [State.memRead_cases]
  · rw [Memory.readBE_one]; rfl
  · rw [State.readBE_eq_halfAt]; rfl
  · rw [State.readBE_eq_wordAt]; rfl

/-- Settles O9: the chain of checks, then the bytes inside and outside a big-endian write. The widths play no part. -/
theorem memoryWritePort : Obligations.MemoryWritePort := by
  intro s addr n v _
  rw [State.memWrite_cases]
  split_ifs
  · rfl
  · rfl
  · exact ⟨s.storeBytes addr n v, rfl, rfl, fun k hk => Memory.readByte_writeBE_inside _ _ _ _ _ hk,
      fun a ha => Memory.readByte_writeBE_outside _ _ _ _ _ ha⟩

/-- Settles O41: the step stores `r[rd]` at the very address that the next-nPC phase puts in `nPC`; the bounds check of
the store is the bounds check of the fetch. -/
theorem fetchSeesStore : Obligations.FetchSeesStore := by
  intro s t w rd rs1 src hf hdec hp hea h
  obtain ⟨u, hexec, rfl⟩ := exec_of_step_of_fetches hf h
  rw [hdec] at hexec
  obtain ⟨hok, rfl⟩ := State.store_next.1 hexec
  rw [State.effAddr_beginStep, hea] at hok ⊢
  have hend := State.endStep_of_idle (s := s.beginStep.storeBytes (s.npc + 4#32) 4 (s.readReg rd)) rfl hp
  rw [State.readReg_beginStep, hend]
  exact ⟨State.le_memSize_of_accessFault hok, (State.wordAt_congr (by rfl) _).trans
    (s.beginStep.wordAt_storeBytes_same (s.npc + 4#32) (s.readReg rd))⟩

/-- Settles O46: read off the effects of the instructions that complete. -/
theorem memoryWriters : Obligations.MemoryWriters :=
  fun _ _ _ h hne => exec_mem h hne

end Sys2Proof.Proofs
end

section
/-! # The encoding family: decoder and encoder are inverse to each other, and every word has a meaning

A word is put together again from the fields that its format reads; with that, the decoder loses nothing, and every
other statement about which words decode to what follows from the words of the instructions. -/

namespace Sys2Proof

/-! ## The arms of the decoder, by `op` (rule R66) -/

section ArmsByOp
variable {w : Word}

theorem decodeWord_of_op0 (h : fieldOp w = 0#2) : decodeWord w = decodeFormat2 w := by simp [decodeWord, h]

theorem decodeWord_of_op2 (h : fieldOp w = 2#2) : decodeWord w = decodeArith w := by simp [decodeWord, h]

theorem decodeWord_of_op3 (h : fieldOp w = 3#2) : decodeWord w = decodeMem w := by simp [decodeWord, h]

end ArmsByOp

/-! ## A word, put together again from its fields -/

section Fields
variable (w : Word)

/-- `a` and `cond` lie over `rd` (rule R63). -/
theorem fieldA_append_fieldCond : fieldA w ++ fieldCond w = fieldRd w := by
  apply BitVec.eq_of_toNat_eq
  simp only [toNat_append', fieldA, fieldCond, fieldRd, toNat_field]
  omega

/-- Bits 13:0 are the encoding of the second operand that they select, `asi` included (rule R68). -/
theorem toNat_encodeSrc_fieldSrc : (encodeSrc (fieldSrc w)).toNat = w.toNat % 2 ^ 14 := by
  by_cases hi : fieldI w = 0#1
  · have hbit : (fieldI w).toNat = 0 := congrArg BitVec.toNat hi
    rw [fieldSrc, if_pos hi, toNat_encodeSrc_reg, fieldAsi, fieldRs2, toNat_field, toNat_field]
    rw [fieldI, toNat_field] at hbit
    omega
  · have hbit : (fieldI w).toNat ≠ 0 := fun h => hi (BitVec.eq_of_toNat_eq h)
    rw [fieldSrc, if_neg hi, toNat_encodeSrc_imm, fieldSimm13, toNat_field]
    rw [fieldI, toNat_field] at hbit
    omega

end Fields

section FieldsOfFormats
variable {w : Word} {op : BitVec 2} {op2 : BitVec 3} {op3 : BitVec 6}

theorem encodeFormat3_of_fields (hop : fieldOp w = op) (hop3 : fieldOp3 w = op3) :
    encodeFormat3 op op3 (fieldRd w) (fieldRs1 w) (fieldSrc w) = w := by
  subst hop hop3
  apply BitVec.eq_of_toNat_eq
  have := w.isLt
  simp only [toNat_encodeFormat3, toNat_encodeSrc_fieldSrc, fieldOp, fieldOp3, fieldRd, fieldRs1, toNat_field]
  omega

theorem encodeReserved3_of_fields (hop : fieldOp w = op) (hop3 : fieldOp3 w = op3) :
    encodeReserved3 op op3 (fieldRd w) (fieldLow19 w) = w := by
  subst hop hop3
  apply BitVec.eq_of_toNat_eq
  have := w.isLt
  simp only [toNat_encodeReserved3, fieldOp, fieldOp3, fieldRd, fieldLow19, toNat_field]
  omega

theorem encodeFpop_of_fields (hop : fieldOp w = 2#2) (hop3 : fieldOp3 w = op3) :
    encodeFpop op3 (fieldRd w) (fieldRs1 w) (fieldOpf w) (fieldRs2 w) = w := by
  subst hop3
  apply BitVec.eq_of_toNat_eq
  have hnum : (fieldOp w).toNat = 2 := congrArg BitVec.toNat hop
  have := w.isLt
  simp only [toNat_encodeFpop, fieldOp, fieldOp3, fieldRd, fieldRs1, fieldOpf, fieldRs2, toNat_field] at hnum ⊢
  omega

theorem encodeFormat2_of_fields (hop : fieldOp w = 0#2) (hop2 : fieldOp2 w = op2) :
    encodeFormat2 op2 (fieldRd w) (fieldImm22 w) = w := by
  subst hop2
  apply BitVec.eq_of_toNat_eq
  have hnum : (fieldOp w).toNat = 0 := congrArg BitVec.toNat hop
  have := w.isLt
  simp only [toNat_encodeFormat2, fieldOp, fieldOp2, fieldRd, fieldImm22, toNat_field] at hnum ⊢
  omega

theorem encodeBranch_of_fields (hop : fieldOp w = 0#2) (hop2 : fieldOp2 w = op2) :
    encodeBranch op2 (fieldA w) (fieldCond w) (fieldImm22 w) = w := by
  subst hop2
  apply BitVec.eq_of_toNat_eq
  have hnum : (fieldOp w).toNat = 0 := congrArg BitVec.toNat hop
  have := w.isLt
  simp only [toNat_encodeBranch, fieldOp, fieldOp2, fieldA, fieldCond, fieldImm22, toNat_field] at hnum ⊢
  omega

theorem encode_call_of_fields (hop : fieldOp w = 1#2) : encode (.call (fieldDisp30 w)) = w := by
  apply BitVec.eq_of_toNat_eq
  have hnum : (fieldOp w).toNat = 1 := congrArg BitVec.toNat hop
  have := w.isLt
  simp only [toNat_encode_call, fieldOp, fieldDisp30, toNat_field] at hnum ⊢
  omega

end FieldsOfFormats

/-! ## Encoding after decoding (rules R66, R80) -/

theorem encode_decodeBicc (cond : BitVec 4) (a : BitVec 1) (disp22 : BitVec 22) :
    encode (decodeBicc cond a disp22) = encodeBranch 2#3 a cond disp22 := by
  unfold decodeBicc
  split
  case h_16 =>
    have hlast : cond = 0xF#4 := by simp only [imp_false] at *; bv_omega
    rw [hlast]
    rfl
  all_goals rfl

/-! In the two lemmas below the arm `h_k` of the decoder is that of `op3 = k - 1`; the arms picked out by number are
those that read other fields than format 3 has. -/

theorem encode_decodeArith {w : Word} (h : fieldOp w = 2#2) : encode (decodeArith w) = w := by
  unfold decodeArith
  split
  case h_10 | h_14 | h_26 | h_30 | h_45 | h_46 | h_47 | h_48 | h_63 => exact encodeReserved3_of_fields h ‹_›
  case h_64 =>
    have hlast : fieldOp3 w = 0x3F#6 := by simp only [imp_false] at *; bv_omega
    exact encodeReserved3_of_fields h hlast
  case h_53 | h_54 | h_55 | h_56 => exact encodeFpop_of_fields h ‹_›
  case h_59 => rw [encode, fieldA_append_fieldCond, encodeFormat3_of_fields h ‹_›]
  all_goals exact encodeFormat3_of_fields h ‹_›

theorem encode_decodeMem {w : Word} (h : fieldOp w = 3#2) : encode (decodeMem w) = w := by
  unfold decodeMem
  split
  case h_9 | h_12 | h_13 | h_15 | h_25 | h_28 | h_29 | h_31 | h_35 | h_41 | h_42 | h_43
  | h_44 | h_45 | h_46 | h_47 | h_48 | h_51 | h_57 | h_58 | h_59 | h_60 | h_61 | h_62 | h_63 =>
    exact encodeReserved3_of_fields h ‹_›
  case h_64 =>
    have hlast : fieldOp3 w = 0x3F#6 := by simp only [imp_false] at *; bv_omega
    exact encodeReserved3_of_fields h hlast
  all_goals exact encodeFormat3_of_fields h ‹_›

theorem encode_decodeFormat2 {w : Word} (h : fieldOp w = 0#2) : encode (decodeFormat2 w) = w := by
  unfold decodeFormat2
  split
  case h_1 =>
    split_ifs with hzero
    · exact hzero.symm
    · exact encodeFormat2_of_fields h ‹_›
  case h_3 => rw [encode_decodeBicc, encodeBranch_of_fields h ‹_›]
  case h_5 =>
    split_ifs with hnop
    · exact hnop.symm
    · exact encodeFormat2_of_fields h ‹_›
  case h_7 => exact encodeBranch_of_fields h ‹_›
  case h_8 =>
    have hlast : fieldOp2 w = 7#3 := by simp only [imp_false] at *; bv_omega
    exact encodeBranch_of_fields h hlast
  all_goals exact encodeFormat2_of_fields h ‹_›

/-- No bit of a word is lost. -/
theorem encode_decodeWord (w : Word) : encode (decodeWord w) = w := by
  unfold decodeWord
  split
  case h_1 h => exact encode_decodeFormat2 h
  case h_2 h => exact encode_call_of_fields h
  case h_3 h => exact encode_decodeArith h
  case h_4 =>
    have hlast : fieldOp w = 3#2 := by simp only [imp_false] at *; bv_omega
    exact encode_decodeMem hlast

/-! ## Well-formed instructions (rules R81, R82) -/

theorem Instr.wellFormed_iff (i : Instr) : i.wellFormed = true ↔ i ≠ .sethi 0#5 0#22 ∧ i ≠ .unimp 0#5 0#22 := by
  simp [Instr.wellFormed, Instr.isNopTwin, Instr.isHaltTwin]

/-- The words of the two twins decode to `NOP` and `HALT0`, so no word decodes to a twin. -/
theorem wellFormed_decodeWord (w : Word) : (decodeWord w).wellFormed = true := by
  refine (Instr.wellFormed_iff _).2 ⟨fun htwin => ?_, fun htwin => ?_⟩ <;>
  · have hword := encode_decodeWord w
    rw [htwin] at hword
    subst hword
    exact absurd htwin (by decide)

/-! ## Decoding after encoding (rules R62 to R76) -/

section Twins
variable {rd : RegNum} {low22 : BitVec 22}

theorem encode_unimp_ne_zero (h : (Instr.unimp rd low22).wellFormed = true) :
    encodeFormat2 0#3 rd low22 ≠ 0x00000000#32 := by
  intro hzero
  obtain ⟨-, rfl, rfl⟩ := encodeFormat2_inj (op2' := 0#3) (rd' := 0#5) (low22' := 0#22) _ _ _ hzero
  exact absurd h (by decide)

theorem encode_sethi_ne_nop (h : (Instr.sethi rd low22).wellFormed = true) :
    encodeFormat2 4#3 rd low22 ≠ 0x01000000#32 := by
  intro hnop
  obtain ⟨-, rfl, rfl⟩ := encodeFormat2_inj (op2' := 4#3) (rd' := 0#5) (low22' := 0#22) _ _ _ hnop
  exact absurd h (by decide)

end Twins

section Ticc
variable (op : BitVec 2) (op3 : BitVec 6) (bit29 : BitVec 1) (cond : BitVec 4) (rs1 : RegNum) (src : Operand2)

theorem fieldA_encodeFormat3_append : fieldA (encodeFormat3 op op3 (bit29 ++ cond) rs1 src) = bit29 := by
  apply BitVec.eq_of_toNat_eq
  rw [fieldA, toNat_field, toNat_encodeFormat3, toNat_encode_ticc_rd]
  omega

theorem fieldCond_encodeFormat3_append : fieldCond (encodeFormat3 op op3 (bit29 ++ cond) rs1 src) = cond := by
  apply BitVec.eq_of_toNat_eq
  rw [fieldCond, toNat_field, toNat_encodeFormat3, toNat_encode_ticc_rd]
  omega

end Ticc

/-! Where the decoder reads a word of some `op` and `op3` by the fields of a format, it takes every word of that format
apart again. -/

section FormatsByOp3
variable {op : BitVec 2} {op3 : BitVec 6}

theorem format3_of_fields {mk : RegNum → RegNum → Operand2 → Instr}
    (h : ∀ w, fieldOp w = op → fieldOp3 w = op3 → decodeWord w = mk (fieldRd w) (fieldRs1 w) (fieldSrc w)) :
    Machine.Format3 op op3 mk := by
  intro rd rs1 src
  rw [h _ (by simp) (by simp)]
  simp

theorem decodeWord_encodeReserved3 {mk : RegNum → BitVec 19 → Instr}
    (h : ∀ w, fieldOp w = op → fieldOp3 w = op3 → decodeWord w = mk (fieldRd w) (fieldLow19 w))
    (rd : RegNum) (low19 : BitVec 19) : decodeWord (encodeReserved3 op op3 rd low19) = mk rd low19 := by
  rw [h _ (by simp) (by simp)]
  simp

theorem decodeWord_encodeFpop {mk : RegNum → RegNum → BitVec 9 → RegNum → Instr}
    (h : ∀ w, fieldOp w = 2#2 → fieldOp3 w = op3 →
      decodeWord w = mk (fieldRd w) (fieldRs1 w) (fieldOpf w) (fieldRs2 w))
    (rd rs1 : RegNum) (opf : BitVec 9) (rs2 : RegNum) :
    decodeWord (encodeFpop op3 rd rs1 opf rs2) = mk rd rs1 opf rs2 := by
  rw [h _ (by simp) (by simp)]
  simp

end FormatsByOp3

/-- No bit of a well-formed instruction is lost, format by format. -/
theorem decodeWord_encode {i : Instr} (h : i.wellFormed = true) : decodeWord (encode i) = i := by
  cases i with
  | halt0 | nop => decide
  | unimp => simp [encode, decodeWord_of_op0, decodeFormat2, encode_unimp_ne_zero h]
  | sethi => simp [encode, decodeWord_of_op0, decodeFormat2, encode_sethi_ne_nop h]
  | reservedOp2_1 | reservedOp2_3 | reservedOp2_5 | fbfcc | cbccc =>
    simp [encode, decodeWord_of_op0, decodeFormat2]
  | bn | be | ble | bl | bleu | bcs | bneg | bvs | ba | bne | bg | bge | bgu | bcc | bpos | bvc =>
    simp [encode, decodeWord_of_op0, decodeFormat2, decodeBicc]
  | call => simp [decodeWord]
  | add | and | or | xor | sub | andn | orn | xnor | addx | umul | smul | subx | udiv | sdiv | addcc | andcc | orcc
  | xorcc | subcc | andncc | orncc | xnorcc | addxcc | umulcc | smulcc | subxcc | udivcc | sdivcc | taddcc | tsubcc
  | taddcctv | tsubcctv | mulscc | sll | srl | sra | rdy | rdpsr | rdwim | rdtbr | wry | wrpsr | wrwim | wrtbr
  | jmpl | rett | flush | save | restore =>
    exact format3_of_fields (fun w hop hop3 => by rw [decodeWord_of_op2 hop, decodeArith, hop3]; rfl) _ _ _
  | reservedArith09 | reservedArith0D | reservedArith19 | reservedArith1D | reservedArith2C | reservedArith2D
  | reservedArith2E | reservedArith2F | reservedArith3E | reservedArith3F =>
    exact decodeWord_encodeReserved3 (fun w hop hop3 => by rw [decodeWord_of_op2 hop, decodeArith, hop3]; rfl) _ _
  | fpop1 | fpop2 | cpop1 | cpop2 =>
    exact decodeWord_encodeFpop (fun w hop hop3 => by rw [decodeWord_of_op2 hop, decodeArith, hop3]; rfl) _ _ _ _
  | ticc =>
    rw [encode, decodeWord_of_op2 (by simp), decodeArith, fieldOp3_encodeFormat3]
    simp [fieldA_encodeFormat3_append, fieldCond_encodeFormat3_append]
  | reservedMem08 | reservedMem0B | reservedMem0C | reservedMem0E | reservedMem18 | reservedMem1B | reservedMem1C
  | reservedMem1E | reservedMem22 | reservedMem28 | reservedMem29 | reservedMem2A | reservedMem2B | reservedMem2C
  | reservedMem2D | reservedMem2E | reservedMem2F | reservedMem32 | reservedMem38 | reservedMem39 | reservedMem3A
  | reservedMem3B | reservedMem3C | reservedMem3D | reservedMem3E | reservedMem3F =>
    exact decodeWord_encodeReserved3 (fun w hop hop3 => by rw [decodeWord_of_op3 hop, decodeMem, hop3]; rfl) _ _
  | ld | ldub | lduh | ldd | st | stb | sth | std | ldsb | ldsh | ldstub | swap | lda | lduba | lduha | ldda | sta
  | stba | stha | stda | ldsba | ldsha | ldstuba | swapa | ldf | ldfsr | lddf | stf | stfsr | stdfq | stdf | ldc
  | ldcsr | lddc | stc | stcsr | stdcq | stdc =>
    exact format3_of_fields (fun w hop hop3 => by rw [decodeWord_of_op3 hop, decodeMem, hop3]; rfl) _ _ _

/-- Words and well-formed instructions determine each other. -/
theorem decodeWord_eq_iff {i : Instr} (h : i.wellFormed = true) (w : Word) : decodeWord w = i ↔ w = encode i :=
  ⟨fun hw => hw ▸ (encode_decodeWord w).symm, fun hw => hw ▸ decodeWord_encode h⟩

/-! ## The second operand (rule R68) -/

theorem fieldI_eq_zero_iff (w : Word) : fieldI w = 0#1 ↔ w.getLsbD 13 = false := by
  have hbit : fieldI w = BitVec.ofBool (w.getLsbD 13) := by
    ext i hi
    obtain rfl : i = 0 := by omega
    simp [fieldI]
  rw [hbit]
  cases w.getLsbD 13 <;> decide

end Sys2Proof

namespace Sys2Proof.Machine

/-! ## No instruction is refused (rule R80): one lemma for each shared operation that can do more than complete -/

section Refusals
variable {s t : State} {rd rs1 : RegNum} {src : Operand2} {r : Refusal}

theorem State.branch_ne_refused {cond : BitVec 4} {a : BitVec 1} {disp22 : BitVec 22} :
    s.branch cond a disp22 ≠ .refused r := by
  unfold State.branch
  split_ifs <;> nofun

theorem State.divide_ne_refused {f : Word → Word → BitVec 64} : s.divide rd rs1 src f ≠ .refused r := by
  simp only [State.divide, State.raiseDivisionByZero]
  split_ifs <;> nofun

theorem State.divideCc_ne_refused {f : Word → Word → BitVec 64} : s.divideCc rd rs1 src f ≠ .refused r := by
  simp only [State.divideCc, State.raiseDivisionByZero]
  split_ifs <;> nofun

theorem State.readSpecial_ne_refused {v : Word} : s.readSpecial rd v ≠ .refused r := by
  unfold State.readSpecial
  split_ifs <;> nofun

theorem State.whenSupervisor_ne_refused : s.whenSupervisor t ≠ .refused r := by
  unfold State.whenSupervisor
  split_ifs <;> nofun

theorem State.load_ne_refused {n : Nat} {ext : Word → Word} : s.load rd rs1 src n ext ≠ .refused r := by
  unfold State.load
  split <;> nofun

theorem State.store_ne_refused {n : Nat} : s.store rd rs1 src n ≠ .refused r := by
  unfold State.store
  split <;> nofun

theorem execLdd_ne_refused : execLdd rd rs1 src s ≠ .refused r := by
  simp only [execLdd, State.raiseIllegal]
  split_ifs
  · nofun
  · split <;> nofun

theorem execStd_ne_refused : execStd rd rs1 src s ≠ .refused r := by
  simp only [execStd, State.raiseIllegal]
  split_ifs
  · nofun
  · split <;> nofun

end Refusals

/-- The last group holds the instructions that complete whatever the state, and those that fault whatever the state. -/
theorem exec_ne_refused (i : Instr) (s : State) (r : Refusal) : exec i s ≠ .refused r := by
  intro h
  cases i with simp only [exec] at h
  | bn | be | ble | bl | bleu | bcs | bneg | bvs | ba | bne | bg | bge | bgu | bcc | bpos | bvc =>
    exact State.branch_ne_refused h
  | udiv | sdiv => exact State.divide_ne_refused h
  | udivcc | sdivcc => exact State.divideCc_ne_refused h
  | rdy | rdpsr | rdwim | rdtbr => exact State.readSpecial_ne_refused h
  | wry | wrpsr | wrwim | wrtbr => exact State.whenSupervisor_ne_refused h
  | ld | ldub | lduh | ldsb | ldsh => exact State.load_ne_refused h
  | st | stb | sth => exact State.store_ne_refused h
  | ldd => exact execLdd_ne_refused h
  | std => exact execStd_ne_refused h
  | _ => nomatch h

end Sys2Proof.Machine

namespace Sys2Proof.Proofs

open Sys2Proof Sys2Proof.Machine Sys2Proof.Claims

/-- Settles O1, format by format. -/
theorem decodeAfterEncode : Obligations.DecodeAfterEncode :=
  fun _ h => decodeWord_encode h

/-- Settles O2: every word is put together again from its fields, and then no twin can come out of the decoder. -/
theorem encodeAfterDecode : Obligations.EncodeAfterDecode :=
  fun w => ⟨wellFormed_decodeWord w, encode_decodeWord w⟩

/-- Settles O42: the fetch answers a word or a fault, and no instruction is refused. -/
theorem stepNeverRefuses : Obligations.StepNeverRefuses := by
  intro s r h
  unfold step at h
  cases hfetch : s.beginStep.fetch with
  | error f => rw [hfetch] at h; cases h
  | ok w =>
    rw [hfetch] at h
    cases hexec : exec (decodeWord w) s.beginStep with
    | refused r' => exact exec_ne_refused _ _ _ hexec
    | next u | fault f => simp only [hexec] at h; cases h

/-- Settles O3: the thirteen words by evaluation, the two iffs because a well-formed instruction has one word only. -/
theorem specWordsDecode : Obligations.SpecWordsDecode := by
  refine ⟨by decide, by decide, by decide, by decide, by decide, by decide, by decide, by decide, by decide, by decide,
    by decide, by decide, by decide, ?_, ?_⟩
  · exact decodeWord_eq_iff (i := .halt0) (by decide)
  · exact decodeWord_eq_iff (i := .nop) (by decide)

/-- Settles O7: the form that bit 13 selects, then the value of each form. -/
theorem secondOperand : Obligations.SecondOperand := by
  refine ⟨fun w h => ?_, fun w h => ?_, fun s => ⟨fun asi rs2 => rfl, fun simm13 => ?_⟩⟩
  · exact if_pos ((fieldI_eq_zero_iff w).2 h)
  · exact if_neg fun hi => Bool.false_ne_true (((fieldI_eq_zero_iff w).1 hi).symm.trans h)
  · exact BitVec.toInt_signExtend_of_le (by decide)

end Sys2Proof.Proofs
end

section
/-! # The add, subtract, logic and shift family: the result, the condition codes, and the frame

The two templates `State.alu` and `State.aluCc` write a register, or a register and the flags, and nothing else; with
that said once, each statement is the arithmetic of its results and flags. -/

namespace Sys2Proof.Machine

/-! ## The words of an instruction of format 3 (rule R74) -/

/-- A constructor that encodes to format 3, and is no twin, takes every word of its `op` and `op3`. -/
theorem format3_of_encode {op : BitVec 2} {op3 : BitVec 6} {mk : RegNum → RegNum → Operand2 → Instr}
    (h : ∀ rd rs1 src,
      encode (mk rd rs1 src) = encodeFormat3 op op3 rd rs1 src ∧ (mk rd rs1 src).wellFormed = true) :
    Format3 op op3 mk := fun rd rs1 src => by
  obtain ⟨hword, hwf⟩ := h rd rs1 src
  rw [← hword]
  exact decodeWord_encode hwf

/-! ## What the register write and the flag write change (rules R7, R13, R14) -/

/-- A register file that differs by one write through the name `rd`, in the window of `w`. -/
theorem RegWritten.of_write {s t w : State} {rd : RegNum} {v : Word}
    (h : t.regs = s.regs.write (w.cellOf rd) v) : RegWritten s t w rd v where
  cells q := by rw [h, RegFile.get_write]
  value := by
    have hnone : w.cellOf rd = none ↔ rd = 0#5 := physReg_eq_none _ _ _
    simp only [h, RegFile.read_write, hnone, if_true]
  zero h0 := by
    have hnone : w.cellOf rd = none := (physReg_eq_none _ _ _).2 h0
    rw [h, hnone, RegFile.write]

/-- The four flags stand in bits 23 to 20 of `PSR`, `N` highest. -/
theorem Icc.getLsbD_bits (f : Icc) :
    f.bits.getLsbD 3 = f.n ∧ f.bits.getLsbD 2 = f.z ∧ f.bits.getLsbD 1 = f.v ∧ f.bits.getLsbD 0 = f.c := by
  obtain ⟨n, z, v, c⟩ := f
  revert n z v c
  decide

/-- Bit by bit, the flag write replaces the field `ICC` and keeps the rest of `PSR`. -/
theorem State.getLsbD_psr_writeIcc (s : State) (f : Icc) (k : Nat) :
    (s.writeIcc f).psr.getLsbD k = if 20 ≤ k ∧ k < 24 then f.bits.getLsbD (k - 20) else s.psr.getLsbD k := by
  rw [State.writeIcc_psr, FieldSpec.set, getLsbD_setField]
  by_cases hk : 20 ≤ k ∧ k < 24
  · have hin : psrIcc.offset ≤ k ∧ k < psrIcc.offset + psrIcc.width ∧ k < 32 := by simp only [psrIcc]; omega
    have hlt : k - 20 < 32 := by omega
    rw [if_pos hin, if_pos hk, BitVec.getLsbD_setWidth, psrIcc, decide_eq_true hlt, Bool.true_and]
  · rw [if_neg hk, if_neg]
    simp only [psrIcc]
    omega

@[simp] theorem State.icc_writeIcc (s : State) (f : Icc) : (s.writeIcc f).icc = f := by
  obtain ⟨hn, hz, hv, hc⟩ := f.getLsbD_bits
  simp only [State.icc, State.getLsbD_psr_writeIcc, Nat.reduceLeDiff, Nat.reduceLT, and_self, if_true, Nat.reduceSub,
    hn, hz, hv, hc]

/-- The flag write after any update that keeps `PSR`. -/
theorem FlagsWritten.of_writeIcc {s u : State} (h : u.psr = s.psr) (f : Icc) : FlagsWritten s (u.writeIcc f) f where
  flags := u.icc_writeIcc f
  others k hk := by rw [State.getLsbD_psr_writeIcc, if_neg (by omega), h]

/-! ## The two templates of rule R100 -/

/-- The flags of rule R110, as the statements write them. -/
theorem iccLogic_eq_flagsOf (res : Word) : iccLogic res = flagsOf res False False := rfl

section Templates
variable {i : Instr} {s t : State} {rd : RegNum} {v : Word} {codes : Icc} (rs1 : RegNum) (src : Operand2)
  (f : Word → Word → Word) (flags : Word → Word → Icc)

theorem writesReg_of_alu (hi : exec i s = s.alu rd rs1 src f) (hv : f (s.readReg rs1) (s.operand2 src) = v) :
    WritesReg i s rd v :=
  ⟨s.writeReg rd v, hi.trans (State.alu_next.2 (by rw [hv])), .of_write rfl, rfl, fun _ => rfl⟩

theorem writesRegFlags_of_aluCc (hi : exec i s = s.aluCc rd rs1 src f flags)
    (hv : f (s.readReg rs1) (s.operand2 src) = v) (hc : flags (s.readReg rs1) (s.operand2 src) = codes) :
    WritesRegFlags i s rd v codes :=
  ⟨(s.writeReg rd v).writeIcc codes, hi.trans (State.aluCc_next.2 (by rw [hv, hc])), .of_write rfl,
    FlagsWritten.of_writeIcc (s := s) (u := s.writeReg rd v) rfl codes, rfl, fun _ => rfl⟩

theorem writesRegFlags_of_logicCc (hi : exec i s = s.logicCc rd rs1 src f) :
    WritesRegFlags i s rd (f (s.readReg rs1) (s.operand2 src))
      (flagsOf (f (s.readReg rs1) (s.operand2 src)) False False) :=
  writesRegFlags_of_aluCc rs1 src f _ hi rfl (iccLogic_eq_flagsOf _)

variable {rs1 src f flags}

theorem State.icc_of_aluCc (h : s.aluCc rd rs1 src f flags = .next t) :
    t.icc = flags (s.readReg rs1) (s.operand2 src) := by
  rw [State.aluCc_next.1 h, State.icc_writeIcc]

end Templates

/-! ## Sums and differences of words (rules R101 to R108) -/

/-- The carry flag as a word. -/
def carryWord (cin : Bool) : Word := if cin = true then 1#32 else 0#32

@[simp] theorem carryWord_false : carryWord false = 0#32 := rfl

@[simp] theorem toNat_carryWord (cin : Bool) : (carryWord cin).toNat = cin.toNat := by cases cin <;> rfl

theorem carryWord_eq_ofNat (cin : Bool) : carryWord cin = BitVec.ofNat 32 cin.toNat := by cases cin <;> rfl

/-- The carry flag as an integer. -/
theorem intCast_toNat_carry (cin : Bool) : (cin.toNat : Int) = if cin = true then 1 else 0 := by cases cin <;> rfl

section Sums
variable (a b : Word) (cin : Bool)

theorem addWords_eq : addWords a b cin = a + b + carryWord cin := by
  simp [addWords, exactSum, carryWord_eq_ofNat, BitVec.ofNat_add]

theorem subWords_eq : subWords a b cin = a - b - carryWord cin := by
  simp [subWords, exactDiff, carryWord_eq_ofNat, Int.sub_eq_add_neg, BitVec.sub_eq_add_neg, BitVec.ofInt_add,
    BitVec.ofInt_neg]

theorem addWords_false : addWords a b false = a + b := by simp [addWords_eq]

theorem subWords_false : subWords a b false = a - b := by simp [subWords_eq]

end Sums

/-- The flags of rules R102 and R104, as the statements write them. -/
theorem iccAdd_eq_flagsOf {a b : Word} {cin : Bool} {res : Word} (hres : addWords a b cin = res) :
    iccAdd a b cin =
      flagsOf res (a.getLsbD 31 = b.getLsbD 31 ∧ res.getLsbD 31 ≠ a.getLsbD 31)
        (2 ^ 32 ≤ a.toNat + b.toNat + (carryWord cin).toNat) := by
  subst hres
  simp only [flagsOf, toNat_carryWord, Bool.decide_and, decide_not, ne_eq]
  rfl

/-- The flags of rules R106 and R108, as the statements write them. -/
theorem iccSub_eq_flagsOf {a b : Word} {cin : Bool} {res : Word} (hres : subWords a b cin = res) :
    iccSub a b cin =
      flagsOf res (a.getLsbD 31 ≠ b.getLsbD 31 ∧ res.getLsbD 31 ≠ a.getLsbD 31)
        (a.toNat < b.toNat + (carryWord cin).toNat) := by
  subst hres
  have hborrow : exactDiff a b cin < 0 ↔ a.toNat < b.toNat + cin.toNat := by unfold exactDiff; omega
  simp only [flagsOf, toNat_carryWord, ← hborrow, Bool.decide_and, decide_not, ne_eq]
  rfl

/-! ## The shifts (rules R130 to R133) -/

theorem shiftCount_eq (b : Word) : shiftCount b = b.toNat % 32 := by
  rw [shiftCount, toNat_field]
  omega

theorem shiftLeft_eq_ofNat (a : Word) (k : Nat) : a <<< k = BitVec.ofNat 32 (a.toNat * 2 ^ k) := by
  apply BitVec.eq_of_toNat_eq
  rw [BitVec.toNat_shiftLeft, BitVec.toNat_ofNat, Nat.shiftLeft_eq]

theorem ushiftRight_eq_ofNat (a : Word) (k : Nat) : a >>> k = BitVec.ofNat 32 (a.toNat / 2 ^ k) := by
  rw [← Nat.shiftRight_eq_div_pow, ← BitVec.toNat_ushiftRight, BitVec.ofNat_toNat, BitVec.setWidth_eq]

theorem sshiftRight_eq_ofInt (a : Word) (k : Nat) : a.sshiftRight k = BitVec.ofInt 32 (a.toInt / 2 ^ k) := by
  have hdiv := Int.shiftRight_eq_div_pow a.toInt k
  rw [Nat.cast_pow, Nat.cast_ofNat] at hdiv
  rw [← hdiv, ← BitVec.toInt_sshiftRight, BitVec.ofInt_toInt]

/-! ## Overflow, carry and borrow as integer bounds (rule R135) -/

/-- `z` is no signed word. -/
def OutsideWord (z : Int) : Prop := z < -2 ^ 31 ∨ 2 ^ 31 ≤ z

theorem isNeg_iff (w : Word) : isNeg w = true ↔ w.toInt < 0 := by
  have hmsb : isNeg w = w.msb := (BitVec.msb_eq_getLsbD_last w).symm
  rw [hmsb, BitVec.msb_eq_toInt, decide_eq_true_iff]

theorem signed_bounds (w : Word) : -2 ^ 31 ≤ w.toInt ∧ w.toInt < 2 ^ 31 := ⟨w.le_toInt, w.toInt_lt⟩

/-- The signed value of a sum is the exact signed sum modulo `2^32`. -/
theorem toInt_addWords (a b : Word) (cin : Bool) :
    (addWords a b cin).toInt = (a.toInt + b.toInt + cin.toNat).bmod (2 ^ 32) := by
  have hofInt : addWords a b cin = BitVec.ofInt 32 (a.toInt + b.toInt + cin.toNat) := by
    simp [addWords_eq, carryWord_eq_ofNat, BitVec.ofInt_add]
  rw [hofInt, BitVec.toInt_ofInt]

/-- The signed value of a difference is the exact signed difference modulo `2^32`. -/
theorem toInt_subWords (a b : Word) (cin : Bool) :
    (subWords a b cin).toInt = (a.toInt - b.toInt - cin.toNat).bmod (2 ^ 32) := by
  have hofInt : subWords a b cin = BitVec.ofInt 32 (a.toInt - b.toInt - cin.toNat) := by
    simp [subWords_eq, carryWord_eq_ofNat, Int.sub_eq_add_neg, BitVec.sub_eq_add_neg, BitVec.ofInt_add,
      BitVec.ofInt_neg]
  rw [hofInt, BitVec.toInt_ofInt]

/-- An overflow is a sum whose sign differs from the common sign of the operands. -/
theorem iccAdd_v_iff (a b : Word) (cin : Bool) :
    (iccAdd a b cin).v = true ↔ OutsideWord (a.toInt + b.toInt + cin.toNat) := by
  have hsigns : (iccAdd a b cin).v = true ↔
      (isNeg a = true ↔ isNeg b = true) ∧ ¬ (isNeg (addWords a b cin) = true ↔ isNeg a = true) := by
    rw [← Bool.eq_iff_iff, ← Bool.eq_iff_iff]
    simp [iccAdd]
  rw [hsigns, isNeg_iff, isNeg_iff, isNeg_iff, toInt_addWords, OutsideWord]
  have ha := signed_bounds a
  have hb := signed_bounds b
  have hcin := cin.toNat_le
  simp only [Int.bmod_def, Nat.reducePow, Nat.cast_ofNat]
  omega

/-- An overflow is a difference of operands of different signs whose sign is not that of the first. -/
theorem iccSub_v_iff (a b : Word) (cin : Bool) :
    (iccSub a b cin).v = true ↔ OutsideWord (a.toInt - b.toInt - cin.toNat) := by
  have hsigns : (iccSub a b cin).v = true ↔
      ¬ (isNeg a = true ↔ isNeg b = true) ∧ ¬ (isNeg (subWords a b cin) = true ↔ isNeg a = true) := by
    rw [← Bool.eq_iff_iff, ← Bool.eq_iff_iff]
    simp [iccSub]
  rw [hsigns, isNeg_iff, isNeg_iff, isNeg_iff, toInt_subWords, OutsideWord]
  have ha := signed_bounds a
  have hb := signed_bounds b
  have hcin := cin.toNat_le
  simp only [Int.bmod_def, Nat.reducePow, Nat.cast_ofNat]
  omega

theorem iccAdd_c_iff (a b : Word) (cin : Bool) :
    (iccAdd a b cin).c = true ↔ 2 ^ 32 ≤ (a.toNat : Int) + b.toNat + cin.toNat := by
  have hsum : (a.toNat : Int) + b.toNat + cin.toNat = (exactSum a b cin : Nat) := rfl
  rw [hsum, iccAdd, decide_eq_true_iff]
  omega

theorem iccSub_c_iff (a b : Word) (cin : Bool) :
    (iccSub a b cin).c = true ↔ (a.toNat : Int) < b.toNat + cin.toNat := by
  rw [iccSub, decide_eq_true_iff, exactDiff]
  omega

end Sys2Proof.Machine

namespace Sys2Proof.Proofs

open Sys2Proof Sys2Proof.Machine Sys2Proof.Claims

/-- Settles O50: the flags the templates leave, then the sign and carry bounds, with the carry flag as an integer. -/
theorem overflowLaws : Obligations.OverflowLaws := by
  intro rd rs1 src s
  refine ⟨fun t h => ?_, fun t h => ?_, fun t h => ?_, fun t h => ?_⟩ <;>
    simp only [exec] at h <;> rw [State.icc_of_aluCc h]
  · have hv := iccAdd_v_iff (s.readReg rs1) (s.operand2 src) false
    have hc := iccAdd_c_iff (s.readReg rs1) (s.operand2 src) false
    simp only [Bool.toNat_false, Nat.cast_zero, add_zero] at hv hc
    exact ⟨hv, hc⟩
  · rw [← intCast_toNat_carry]
    exact ⟨iccAdd_v_iff .., iccAdd_c_iff ..⟩
  · have hv := iccSub_v_iff (s.readReg rs1) (s.operand2 src) false
    have hc := iccSub_c_iff (s.readReg rs1) (s.operand2 src) false
    simp only [Bool.toNat_false, Nat.cast_zero, add_zero, sub_zero, Nat.cast_lt] at hv hc
    exact ⟨hv, hc⟩
  · rw [← intCast_toNat_carry]
    exact ⟨iccSub_v_iff .., iccSub_c_iff ..⟩

/-- Settles O10: the op3 numbers, then the four results on the template without flags. -/
theorem addSubResults : Obligations.AddSubResults := by
  refine ⟨?_, ?_, ?_, ?_, fun rd rs1 src s => ⟨?_, ?_, ?_, ?_⟩⟩
  iterate 4 exact format3_of_encode fun _ _ _ => ⟨rfl, rfl⟩
  · exact writesReg_of_alu rs1 src (addWords · · false) rfl (addWords_false _ _)
  · exact writesReg_of_alu rs1 src (addWords · · s.icc.c) rfl (addWords_eq _ _ _)
  · exact writesReg_of_alu rs1 src (subWords · · false) rfl (subWords_false _ _)
  · exact writesReg_of_alu rs1 src (subWords · · s.icc.c) rfl (subWords_eq _ _ _)

/-- Settles O11: the four results and their flags on the template with flags. -/
theorem addSubFlags : Obligations.AddSubFlags := by
  refine ⟨?_, ?_, ?_, ?_, fun rd rs1 src s => ⟨?_, ?_, ?_, ?_⟩⟩
  iterate 4 exact format3_of_encode fun _ _ _ => ⟨rfl, rfl⟩
  · have hres := addWords_false (s.readReg rs1) (s.operand2 src)
    exact writesRegFlags_of_aluCc rs1 src (addWords · · false) (iccAdd · · false) rfl hres (iccAdd_eq_flagsOf hres)
  · have hres := addWords_eq (s.readReg rs1) (s.operand2 src) s.icc.c
    exact writesRegFlags_of_aluCc rs1 src (addWords · · s.icc.c) (iccAdd · · s.icc.c) rfl hres (iccAdd_eq_flagsOf hres)
  · have hres := subWords_false (s.readReg rs1) (s.operand2 src)
    exact writesRegFlags_of_aluCc rs1 src (subWords · · false) (iccSub · · false) rfl hres (iccSub_eq_flagsOf hres)
  · have hres := subWords_eq (s.readReg rs1) (s.operand2 src) s.icc.c
    exact writesRegFlags_of_aluCc rs1 src (subWords · · s.icc.c) (iccSub · · s.icc.c) rfl hres (iccSub_eq_flagsOf hres)

/-- Settles O12: five results are the model's own terms; that of `XNOR` moves the complement out. -/
theorem logicResults : Obligations.LogicResults := by
  refine ⟨?_, ?_, ?_, ?_, ?_, ?_, fun rd rs1 src s => ⟨?_, ?_, ?_, ?_, ?_, ?_⟩⟩
  iterate 6 exact format3_of_encode fun _ _ _ => ⟨rfl, rfl⟩
  · exact writesReg_of_alu rs1 src (· &&& ·) rfl rfl
  · exact writesReg_of_alu rs1 src (· &&& ~~~ ·) rfl rfl
  · exact writesReg_of_alu rs1 src (· ||| ·) rfl rfl
  · exact writesReg_of_alu rs1 src (· ||| ~~~ ·) rfl rfl
  · exact writesReg_of_alu rs1 src (· ^^^ ·) rfl rfl
  · exact writesReg_of_alu rs1 src (· ^^^ ~~~ ·) rfl BitVec.not_xor_right.symm

/-- Settles O13: the six results with the flags of rule R110. -/
theorem logicFlags : Obligations.LogicFlags := by
  refine ⟨?_, ?_, ?_, ?_, ?_, ?_, fun rd rs1 src s => ⟨?_, ?_, ?_, ?_, ?_, ?_⟩⟩
  iterate 6 exact format3_of_encode fun _ _ _ => ⟨rfl, rfl⟩
  · exact writesRegFlags_of_logicCc rs1 src (· &&& ·) rfl
  · exact writesRegFlags_of_logicCc rs1 src (· &&& ~~~ ·) rfl
  · exact writesRegFlags_of_logicCc rs1 src (· ||| ·) rfl
  · exact writesRegFlags_of_logicCc rs1 src (· ||| ~~~ ·) rfl
  · exact writesRegFlags_of_logicCc rs1 src (· ^^^ ·) rfl
  · exact writesRegFlags_of_logicCc rs1 src (· ^^^ ~~~ ·) rfl

/-- Settles O14: the count is the second operand modulo 32, and each shift is its product or quotient by `2^k`. -/
theorem shiftResults : Obligations.ShiftResults := by
  refine ⟨?_, ?_, ?_, fun rd rs1 src s => ?_⟩
  iterate 3 exact format3_of_encode fun _ _ _ => ⟨rfl, rfl⟩
  rw [← shiftCount_eq]
  refine ⟨?_, ?_, ?_⟩
  · exact writesReg_of_alu rs1 src (· <<< shiftCount ·) rfl (shiftLeft_eq_ofNat _ _)
  · exact writesReg_of_alu rs1 src (· >>> shiftCount ·) rfl (ushiftRight_eq_ofNat _ _)
  · exact writesReg_of_alu rs1 src (fun a b => a.sshiftRight (shiftCount b)) rfl (sshiftRight_eq_ofInt _ _)

end Sys2Proof.Proofs
end

section
/-! # The multiply and divide family: the words and flags of the products and quotients, and the engines

A signed product, quotient or engine run is the unsigned one on the magnitudes, negated where the signs differ. An
engine is followed by one number for its registers: each iteration changes that number by a linear law, which a short
induction sums up over the loop. -/

namespace Sys2Proof.Machine

/-! ## Signs and magnitudes (rules R7, R143, R148) -/

theorem neg32_eq_neg (x : Word) : neg32 x = -x := (BitVec.neg_eq_not_add x).symm

theorem neg64_eq_neg (x : BitVec 64) : neg64 x = -x := (BitVec.neg_eq_not_add x).symm

theorem toNat_magnitude (x : Word) : (magnitude x).toNat = x.toInt.natAbs := by
  have hneg := isNeg_iff x
  have hx := x.isLt
  rw [magnitude, neg32_eq_neg]
  rw [BitVec.toInt_eq_toNat_cond] at hneg ⊢
  by_cases h : isNeg x = true
  · rw [if_pos h, BitVec.toNat_neg]
    have := hneg.1 h
    omega
  · rw [if_neg h]
    have := mt hneg.2 h
    omega

/-- A word is its magnitude with its sign. -/
theorem toInt_eq_magnitude (x : Word) :
    x.toInt = if isNeg x = true then -((magnitude x).toNat : Int) else ((magnitude x).toNat : Int) := by
  have hneg := isNeg_iff x
  rw [toNat_magnitude]
  by_cases h : isNeg x = true
  · have := hneg.1 h
    rw [if_pos h]
    omega
  · have := mt hneg.2 h
    rw [if_neg h]
    omega

theorem magnitude_ne_zero {x : Word} (h : x ≠ 0#32) : magnitude x ≠ 0#32 := by
  rw [ne_eq, ← BitVec.toNat_inj, toNat_magnitude]
  have : x.toInt ≠ 0 := fun h0 => h (BitVec.eq_of_toInt_eq h0)
  simpa using this

/-- The signed product is the product of the magnitudes with its sign (rule R143). -/
theorem smulPair_eq_magnitudes (a b : Word) :
    smulPair a b =
      if isNeg a != isNeg b then neg64 (umulPair (magnitude a) (magnitude b))
      else umulPair (magnitude a) (magnitude b) := by
  rw [smulPair, umulPair, neg64_eq_neg, toInt_eq_magnitude a, toInt_eq_magnitude b]
  cases isNeg a <;> cases isNeg b <;> simp [BitVec.ofInt_neg, BitVec.ofInt_mul, BitVec.ofNat_mul]

/-- The quotient truncated toward zero is that of the magnitudes with its sign (rule R153). -/
theorem tdiv_eq_magnitudes (a b : Word) :
    a.toInt.tdiv b.toInt =
      if isNeg a != isNeg b then -(((magnitude a).toNat / (magnitude b).toNat : Nat) : Int)
      else (((magnitude a).toNat / (magnitude b).toNat : Nat) : Int) := by
  rw [toInt_eq_magnitude a, toInt_eq_magnitude b]
  cases isNeg a <;> cases isNeg b <;> simp

/-! ## The two words of a pair (rules R141, R146) -/

@[simp] theorem pairHigh_append (hi lo : Word) : pairHigh (hi ++ lo) = hi := by
  rw [pairHigh, BitVec.extractLsb'_append_eq_left]

@[simp] theorem pairLow_append (hi lo : Word) : pairLow (hi ++ lo) = lo := by
  rw [pairLow, BitVec.extractLsb'_append_eq_right]

theorem toNat_pairHigh (p : BitVec 64) : (pairHigh p).toNat = p.toNat / 2 ^ 32 := by
  rw [pairHigh, BitVec.extractLsb'_toNat, Nat.shiftRight_eq_div_pow]
  omega

theorem toNat_pairLow (p : BitVec 64) : (pairLow p).toNat = p.toNat % 2 ^ 32 := by
  rw [pairLow, BitVec.extractLsb'_toNat, Nat.shiftRight_zero]

theorem pairLow_ofInt (z : Int) : pairLow (BitVec.ofInt 64 z) = BitVec.ofInt 32 z := by
  apply BitVec.eq_of_toNat_eq
  rw [toNat_pairLow, BitVec.toNat_ofInt, BitVec.toNat_ofInt]
  omega

theorem pairHigh_ofInt (z : Int) : pairHigh (BitVec.ofInt 64 z) = BitVec.ofInt 32 (z / 2 ^ 32) := by
  apply BitVec.eq_of_toNat_eq
  rw [toNat_pairHigh, BitVec.toNat_ofInt, BitVec.toNat_ofInt]
  omega

theorem pairLow_ofNat (n : Nat) : pairLow (BitVec.ofNat 64 n) = BitVec.ofNat 32 n := by
  rw [← BitVec.ofInt_natCast, pairLow_ofInt, BitVec.ofInt_natCast]

theorem pairHigh_ofNat (n : Nat) : pairHigh (BitVec.ofNat 64 n) = BitVec.ofNat 32 (n / 2 ^ 32) := by
  rw [← BitVec.ofInt_natCast, ← BitVec.ofInt_natCast, pairHigh_ofInt, Int.natCast_ediv]
  rfl

theorem pairLow_neg (p : BitVec 64) : pairLow (-p) = -pairLow p := by
  apply BitVec.eq_of_toNat_eq
  rw [toNat_pairLow, BitVec.toNat_neg, BitVec.toNat_neg, toNat_pairLow]
  omega

/-- Negating a pair negates the high word when the low word is 0, and else complements it. -/
theorem pairHigh_neg (p : BitVec 64) : pairHigh (-p) = if pairLow p = 0#32 then -pairHigh p else ~~~pairHigh p := by
  have hlow : pairLow p = 0#32 ↔ p.toNat % 2 ^ 32 = 0 := by rw [← BitVec.toNat_inj, toNat_pairLow]; rfl
  apply BitVec.eq_of_toNat_eq
  rw [toNat_pairHigh, BitVec.toNat_neg]
  by_cases h : pairLow p = 0#32
  · rw [if_pos h, BitVec.toNat_neg, toNat_pairHigh]
    have := hlow.1 h
    omega
  · rw [if_neg h, BitVec.toNat_not, toNat_pairHigh]
    have := mt hlow.2 h
    omega

/-! ## The templates of the multiply and divide instructions (rules R141 to R150) -/

section Templates
variable {i : Instr} {s : State} {rd : RegNum} {lo hi : Word} {codes : Icc} (rs1 : RegNum) (src : Operand2)
  (f : Word → Word → BitVec 64) (flags : BitVec 64 → Icc)

theorem writesRegY_of_writePair {p : BitVec 64} (hexec : exec i s = .next (s.writePair rd p)) (hlo : pairLow p = lo)
    (hhi : pairHigh p = hi) : WritesRegY i s rd lo hi := by
  subst hlo hhi
  exact ⟨_, hexec, .of_write rfl, rfl, fun _ => rfl⟩

theorem writesRegY_of_multiply (hexec : exec i s = s.multiply rd rs1 src f)
    (hlo : pairLow (f (s.readReg rs1) (s.operand2 src)) = lo)
    (hhi : pairHigh (f (s.readReg rs1) (s.operand2 src)) = hi) : WritesRegY i s rd lo hi :=
  writesRegY_of_writePair (hexec.trans (State.multiply_next.2 rfl)) hlo hhi

theorem writesRegYFlags_of_multiplyCc (hexec : exec i s = s.multiplyCc rd rs1 src f flags)
    (hlo : pairLow (f (s.readReg rs1) (s.operand2 src)) = lo)
    (hhi : pairHigh (f (s.readReg rs1) (s.operand2 src)) = hi)
    (hcodes : flags (f (s.readReg rs1) (s.operand2 src)) = codes) : WritesRegYFlags i s rd lo hi codes := by
  subst hlo hhi hcodes
  exact ⟨_, hexec.trans (State.multiplyCc_next.2 rfl), .of_write rfl,
    FlagsWritten.of_writeIcc (s := s) (u := s.writePair rd _) rfl _, rfl, fun _ => rfl⟩

theorem writesRegY_of_divide (hexec : exec i s = s.divide rd rs1 src f) (hb : s.operand2 src ≠ 0#32)
    (hlo : pairLow (f (s.readReg rs1) (s.operand2 src)) = lo)
    (hhi : pairHigh (f (s.readReg rs1) (s.operand2 src)) = hi) : WritesRegY i s rd lo hi :=
  writesRegY_of_writePair (hexec.trans (State.divide_next.2 ⟨hb, rfl⟩)) hlo hhi

theorem State.divide_zero (hb : s.operand2 src = 0#32) :
    s.divide rd rs1 src f = .fault (.divisionByZero s.pc) := if_pos hb

end Templates

/-- The flags of rule R142, as the statement writes them. -/
theorem iccUmul_eq {p : BitVec 64} {lo hi : Word} (hlo : pairLow p = lo) (hhi : pairHigh p = hi) :
    iccUmul p = ⟨false, decide (lo = 0#32 ∧ hi = 0#32), decide (hi ≠ 0#32), false⟩ := by
  subst hlo hhi
  simp only [Bool.decide_and, decide_not, ne_eq]
  rfl

/-- The flags of rule R144, as the statement writes them. -/
theorem iccSmul_eq {p : BitVec 64} {lo hi : Word} (hlo : pairLow p = lo) (hhi : pairHigh p = hi) :
    iccSmul p = ⟨lo.getLsbD 31, decide (lo = 0#32 ∧ hi = 0#32), decide (hi ≠ 0#32), false⟩ := by
  subst hlo hhi
  simp only [Bool.decide_and, decide_not, ne_eq]
  rfl

/-! ## The signed quotient and its `Y` (rules R148, R153) -/

/-- The pair of rule R148, as the statements write it. -/
theorem signedPair_eq_sdivPair (a b : Word) : Claims.signedPair a b = sdivPair a b := by
  simp only [sdivPair, magnitude, neg32_eq_neg, neg64_eq_neg, bne_iff_ne]
  rfl

theorem pairLow_sdivPair (a b : Word) : pairLow (sdivPair a b) = BitVec.ofInt 32 (a.toInt.tdiv b.toInt) := by
  rw [sdivPair, tdiv_eq_magnitudes, udivPair]
  split
  · rw [neg64_eq_neg, pairLow_neg, pairLow_append, BitVec.ofInt_neg, BitVec.ofInt_natCast]
  · rw [pairLow_append, BitVec.ofInt_natCast]

theorem pairHigh_sdivPair (a b : Word) :
    pairHigh (sdivPair a b) =
      let m := BitVec.ofNat 32 (a.toInt.natAbs % b.toInt.natAbs)
      if a.getLsbD 31 = b.getLsbD 31 then m else if a.toInt.natAbs / b.toInt.natAbs = 0 then -m else ~~~m := by
  have hq : BitVec.ofNat 32 (a.toInt.natAbs / b.toInt.natAbs) = 0#32 ↔ a.toInt.natAbs / b.toInt.natAbs = 0 := by
    have ha := (magnitude a).isLt
    have hle := Nat.div_le_self a.toInt.natAbs b.toInt.natAbs
    rw [toNat_magnitude] at ha
    rw [← BitVec.toNat_inj, BitVec.toNat_ofNat, Nat.mod_eq_of_lt (by omega)]
    rfl
  simp only [sdivPair, udivPair, toNat_magnitude, isNeg]
  by_cases hsigns : a.getLsbD 31 = b.getLsbD 31
  · rw [if_neg (by simpa using hsigns), pairHigh_append, if_pos hsigns]
  · rw [if_pos (by simpa using hsigns), neg64_eq_neg, pairHigh_neg, pairHigh_append, pairLow_append, if_neg hsigns]
    simp only [hq]

/-! ## The multiply engine (rule R145) -/

/-- The registers of the multiply engine as one number of 64 bits. -/
def MulRegs.value (r : MulRegs) : Nat := r.acc.toNat * 2 ^ 32 + r.mq.toNat

/-- One iteration adds the multiplicand to the high word when the low bit is set, and halves the whole. -/
theorem value_mulIteration (multiplicand : Word) (r : MulRegs) :
    2 * (mulIteration multiplicand r).value + r.mq.toNat % 2 =
      r.value + r.mq.toNat % 2 * (multiplicand.toNat * 2 ^ 32) := by
  obtain ⟨acc, mq⟩ := r
  have hm := multiplicand.isLt
  have hacc := acc.isLt
  have hmq := mq.isLt
  have hbit : mq.getLsbD 0 = decide (mq.toNat % 2 = 1) := by
    rw [BitVec.getLsbD, Nat.testBit_zero]
  simp only [MulRegs.value, mulIteration, hbit, BitVec.extractLsb'_toNat, BitVec.toNat_ushiftRight, toNat_append',
    Nat.shiftRight_eq_div_pow, decide_eq_true_eq]
  obtain hlow | hlow := Nat.mod_two_eq_zero_or_one mq.toNat
  · rw [hlow, if_neg Nat.zero_ne_one, BitVec.toNat_setWidth]
    omega
  · rw [hlow, if_pos rfl, BitVec.toNat_add, BitVec.toNat_setWidth, BitVec.toNat_setWidth]
    omega

/-- After `k` iterations the multiplicand has been added `n` times at the height of the accumulator, and `n` is the
number of the `k` bits shifted out. -/
theorem value_mulLoop (multiplicand : Word) (k : Nat) (r : MulRegs) :
    ∃ n < 2 ^ k, 2 ^ k * (mulLoop multiplicand k r).value + n = r.value + n * (multiplicand.toNat * 2 ^ 32) := by
  induction k generalizing r with
  | zero => exact ⟨0, by simp [mulLoop]⟩
  | succ k ih =>
    obtain ⟨n, hn, hloop⟩ := ih (mulIteration multiplicand r)
    have hstep := value_mulIteration multiplicand r
    have hbit := Nat.mod_lt r.mq.toNat Nat.two_pos
    refine ⟨2 * n + r.mq.toNat % 2, by rw [pow_succ]; omega, ?_⟩
    rw [mulLoop, pow_succ]
    linear_combination 2 * hloop + hstep

theorem mulEngine_eq_umulPair (a b : Word) : mulEngine a b = umulPair a b := by
  obtain ⟨n, hn, hloop⟩ := value_mulLoop a 32 { acc := 0#32, mq := b }
  have hb := b.isLt
  simp only [MulRegs.value, BitVec.toNat_zero, ← mul_assoc] at hloop
  have hnb : n = b.toNat := by omega
  apply BitVec.eq_of_toNat_eq
  rw [mulEngine, umulPair, toNat_append', BitVec.toNat_ofNat, mul_comm a.toNat, ← hnb]
  omega

/-! ## The divide engine (rule R151) -/

/-- The partial remainder with the final correction of rule R151. -/
def DivRegs.remainder (divisor : Word) (r : DivRegs) : BitVec 33 :=
  if r.rem.getLsbD 32 then r.rem + divisor.setWidth 33 else r.rem

/-- The corrected remainder over the quotient register, as one number. -/
def DivRegs.value (divisor : Word) (r : DivRegs) : Nat := (r.remainder divisor).toNat * 2 ^ 32 + r.qr.toNat

/-- The partial remainder, read with its sign, is at least the negated divisor. -/
def DivRegs.Correctable (divisor : Word) (r : DivRegs) : Prop :=
  2 ^ 32 ≤ r.rem.toNat → 2 ^ 33 ≤ r.rem.toNat + divisor.toNat

theorem getLsbD_sign (x : BitVec 33) : x.getLsbD 32 = decide (2 ^ 32 ≤ x.toNat) :=
  (BitVec.msb_eq_getLsbD_last x).symm.trans (BitVec.msb_eq_decide x)

theorem DivRegs.toNat_remainder (divisor : Word) (r : DivRegs) :
    (r.remainder divisor).toNat =
      if 2 ^ 32 ≤ r.rem.toNat then (r.rem.toNat + divisor.toNat) % 2 ^ 33 else r.rem.toNat := by
  have hd := divisor.isLt
  rw [DivRegs.remainder, getLsbD_sign]
  by_cases h : 2 ^ 32 ≤ r.rem.toNat
  · rw [if_pos (decide_eq_true h), if_pos h, BitVec.toNat_add, BitVec.toNat_setWidth,
      Nat.mod_eq_of_lt (a := divisor.toNat) (by omega)]
  · rw [if_neg (by simpa using h), if_neg h]

section DivIteration
variable {divisor : Word} {r : DivRegs}

/-- The new quotient bit is 1 where the new partial remainder is not negative. -/
theorem toNat_qr_divIteration (divisor : Word) (r : DivRegs) :
    (divIteration divisor r).qr.toNat =
      r.qr.toNat % 2 ^ 31 * 2 + (!(divIteration divisor r).rem.getLsbD 32).toNat := by
  have hqr := r.qr.isLt
  simp only [divIteration, toNat_append', BitVec.extractLsb'_toNat, Nat.shiftRight_eq_div_pow, BitVec.toNat_shiftLeft,
    Nat.shiftLeft_eq, BitVec.toNat_ofBool]
  omega

/-- The left shift of rule R151 doubles the partial remainder and takes in the top bit of the quotient register. -/
theorem toNat_rem_shifted (rem : BitVec 33) (qr : Word) :
    (((rem ++ qr) <<< 1 : BitVec 65).extractLsb' 32 33).toNat = (2 * rem.toNat + qr.toNat / 2 ^ 31) % 2 ^ 33 := by
  have hqr := qr.isLt
  rw [BitVec.extractLsb'_toNat, Nat.shiftRight_eq_div_pow, BitVec.toNat_shiftLeft, Nat.shiftLeft_eq, toNat_append']
  omega

/-- Either branch of an iteration leaves twice the corrected remainder, with the bit shifted in, less the divisor. -/
theorem toNat_rem_divIteration (h : r.Correctable divisor) :
    ((divIteration divisor r).rem.toNat + divisor.toNat) % 2 ^ 33 =
      (2 * (r.remainder divisor).toNat + r.qr.toNat / 2 ^ 31) % 2 ^ 33 := by
  have hd := divisor.isLt
  have hrem := r.rem.isLt
  simp only [divIteration, r.toNat_remainder, getLsbD_sign]
  by_cases hneg : 2 ^ 32 ≤ r.rem.toNat
  · have := h hneg
    rw [if_pos (decide_eq_true hneg), if_pos hneg, BitVec.toNat_add, BitVec.toNat_setWidth, toNat_rem_shifted]
    omega
  · rw [if_neg (by simpa using hneg), if_neg hneg, BitVec.toNat_sub, BitVec.toNat_setWidth, toNat_rem_shifted]
    omega

/-- Doubling the number of the registers shifts the top bit of the quotient register into the remainder. -/
theorem DivRegs.two_mul_value (divisor : Word) (r : DivRegs) :
    2 * r.value divisor =
      (2 * (r.remainder divisor).toNat + r.qr.toNat / 2 ^ 31) * 2 ^ 32 + r.qr.toNat % 2 ^ 31 * 2 := by
  rw [DivRegs.value]
  omega

/-- One iteration doubles the number of the registers; where the divisor then fits, it is subtracted from the remainder
and the quotient bit is 1. -/
theorem value_divIteration (h : r.Correctable divisor)
    (hfit : 2 * r.value divisor < (2 ^ 32 + divisor.toNat) * 2 ^ 32) :
    (divIteration divisor r).Correctable divisor ∧
      (divisor.toNat * 2 ^ 32 ≤ 2 * r.value divisor ∧
          (divIteration divisor r).value divisor + divisor.toNat * 2 ^ 32 = 2 * r.value divisor + 1 ∨
        2 * r.value divisor < divisor.toNat * 2 ^ 32 ∧
          (divIteration divisor r).value divisor = 2 * r.value divisor) := by
  have hd := divisor.isLt
  have hrem := (divIteration divisor r).rem.isLt
  have hlow := Nat.mod_lt r.qr.toNat (Nat.two_pow_pos 31)
  have hrem' := toNat_rem_divIteration h
  have hqr' := toNat_qr_divIteration divisor r
  have hkeep := (divIteration divisor r).toNat_remainder divisor
  rw [DivRegs.two_mul_value] at hfit ⊢
  rw [getLsbD_sign] at hqr'
  rw [DivRegs.value, hqr', DivRegs.Correctable]
  generalize 2 * (r.remainder divisor).toNat + r.qr.toNat / 2 ^ 31 = shifted at *
  generalize r.qr.toNat % 2 ^ 31 = low at *
  replace hfit : shifted < 2 ^ 32 + divisor.toNat := by omega
  by_cases hneg : 2 ^ 32 ≤ (divIteration divisor r).rem.toNat
  · rw [if_pos hneg] at hkeep
    rw [decide_eq_true hneg, Bool.not_true, Bool.toNat_false]
    have hborrow : (divIteration divisor r).rem.toNat + divisor.toNat = shifted + 2 ^ 33 := by omega
    refine ⟨fun _ => ?_, .inr ⟨?_, ?_⟩⟩ <;> omega
  · rw [if_neg hneg] at hkeep
    rw [decide_eq_false hneg, Bool.not_false, Bool.toNat_true]
    have hsub : (divIteration divisor r).rem.toNat + divisor.toNat = shifted := by omega
    refine ⟨fun _ => ?_, .inl ⟨?_, ?_⟩⟩ <;> omega

end DivIteration

/-- After `k` iterations from a remainder below the divisor, the divisor has been subtracted `q` times, and the `k` bits
shifted in are `q`. -/
theorem value_divLoop {divisor : Word} (k : Nat) {r : DivRegs} (h : r.Correctable divisor)
    (hlt : r.value divisor < divisor.toNat * 2 ^ 32) :
    (divLoop divisor k r).value divisor < divisor.toNat * 2 ^ 32 ∧
      ∃ q < 2 ^ k, (divLoop divisor k r).value divisor + q * (divisor.toNat * 2 ^ 32) =
        2 ^ k * r.value divisor + q := by
  induction k generalizing r with
  | zero => exact ⟨hlt, 0, by simp [divLoop]⟩
  | succ k ih =>
    have hd := divisor.isLt
    obtain ⟨h', ⟨hle, hstep⟩ | ⟨hgt, hstep⟩⟩ := value_divIteration h (by omega)
    · obtain ⟨hlt', q, hq, hloop⟩ := ih h' (by omega)
      refine ⟨hlt', 2 ^ k + q, by rw [pow_succ]; omega, ?_⟩
      rw [divLoop, pow_succ]
      linear_combination hloop + 2 ^ k * hstep
    · obtain ⟨hlt', q, hq, hloop⟩ := ih h' (by omega)
      refine ⟨hlt', q, by rw [pow_succ]; omega, ?_⟩
      rw [divLoop, pow_succ]
      linear_combination hloop + 2 ^ k * hstep

/-- With the divisor 0 every quotient bit is 1 and nothing is subtracted, as long as the remainder has room. -/
theorem value_divLoop_zero (k : Nat) {r : DivRegs} (h : r.Correctable 0#32)
    (hroom : 2 ^ k * (r.value 0#32 + 1) ≤ 2 ^ 64) :
    (divLoop 0#32 k r).value 0#32 + 1 = 2 ^ k * (r.value 0#32 + 1) := by
  induction k generalizing r with
  | zero => simp [divLoop]
  | succ k ih =>
    have hdouble : 2 ^ (k + 1) * (r.value 0#32 + 1) = 2 ^ k * (2 * (r.value 0#32 + 1)) := by rw [pow_succ, mul_assoc]
    have hpow : 2 * (r.value 0#32 + 1) ≤ 2 ^ k * (2 * (r.value 0#32 + 1)) :=
      Nat.le_mul_of_pos_left _ (Nat.two_pow_pos k)
    obtain ⟨h', hstep⟩ := value_divIteration h (by simp only [BitVec.toNat_zero]; omega)
    have hnext : (divIteration 0#32 r).value 0#32 + 1 = 2 * (r.value 0#32 + 1) := by
      rw [BitVec.toNat_zero] at hstep
      omega
    rw [divLoop, ih h' (by rw [hnext]; omega), hnext, hdouble]

/-- The registers before the first iteration. -/
theorem correctable_start (dividend divisor : Word) : DivRegs.Correctable divisor ⟨0#33, dividend⟩ := by
  simp [DivRegs.Correctable]

theorem value_start (dividend divisor : Word) : DivRegs.value divisor ⟨0#33, dividend⟩ = dividend.toNat := by
  rw [DivRegs.value, DivRegs.toNat_remainder]
  simp

theorem toNat_divEngine (dividend divisor : Word) :
    (divEngine dividend divisor).toNat = (divLoop divisor 32 ⟨0#33, dividend⟩).value divisor % 2 ^ 64 := by
  have hqr := (divLoop divisor 32 ⟨0#33, dividend⟩).qr.isLt
  have hengine : divEngine dividend divisor =
      ((divLoop divisor 32 ⟨0#33, dividend⟩).remainder divisor).extractLsb' 0 32 ++
        (divLoop divisor 32 ⟨0#33, dividend⟩).qr := rfl
  rw [hengine, toNat_append', BitVec.extractLsb'_toNat, Nat.shiftRight_zero, DivRegs.value]
  omega

theorem divEngine_eq_udivPair (a : Word) {b : Word} (hb : b ≠ 0#32) : divEngine a b = udivPair a b := by
  have ha := a.isLt
  have hb' := b.isLt
  have hpos : 0 < b.toNat := Nat.pos_of_ne_zero fun h0 => hb (BitVec.eq_of_toNat_eq h0)
  obtain ⟨hlt, q, hq, hloop⟩ := value_divLoop 32 (correctable_start a b) (by rw [value_start]; omega)
  rw [value_start, ← mul_assoc] at hloop
  have hdivmod := Nat.div_add_mod a.toNat b.toNat
  have hmod := Nat.mod_lt a.toNat hpos
  have hquot : a.toNat / b.toNat = q := by
    rw [Nat.div_eq_iff hpos]
    constructor <;> omega
  apply BitVec.eq_of_toNat_eq
  rw [toNat_divEngine, udivPair, toNat_append', BitVec.toNat_ofNat, BitVec.toNat_ofNat]
  rw [hquot, mul_comm] at hdivmod
  rw [hquot]
  omega

theorem divEngine_zero (a : Word) : divEngine a 0#32 = a ++ 0xFFFFFFFF#32 := by
  have ha := a.isLt
  have hloop := value_divLoop_zero 32 (correctable_start a 0#32) (by rw [value_start]; omega)
  rw [value_start] at hloop
  apply BitVec.eq_of_toNat_eq
  rw [toNat_divEngine, toNat_append', BitVec.toNat_ofNat]
  omega

end Sys2Proof.Machine

namespace Sys2Proof.Proofs

open Sys2Proof Sys2Proof.Machine Sys2Proof.Claims

/-- Settles O58: the engine adds the multiplicand once for each unit of the multiplier, and the sign goes through the
magnitudes. -/
theorem multiplyEnginesAgree : Obligations.MultiplyEnginesAgree := fun a b => by
  refine ⟨mulEngine_eq_umulPair a b, ?_⟩
  rw [smulPair_eq_magnitudes, ← mulEngine_eq_umulPair]
  rfl

/-- Settles O59: a corrected remainder below the divisor stays so, which fixes quotient and remainder; with the divisor
0 every quotient bit is 1. -/
theorem divideEnginesAgree : Obligations.DivideEnginesAgree := fun a b => by
  refine ⟨fun hb => ⟨divEngine_eq_udivPair a hb, ?_⟩, divEngine_zero a⟩
  rw [sdivPair, ← divEngine_eq_udivPair _ (magnitude_ne_zero hb)]
  rfl

/-- Settles O52: the low and the high word of the negated pair. -/
theorem signedDivideTable : Obligations.SignedDivideTable := fun _ rs1 src _ hb =>
  writesRegY_of_divide rs1 src sdivPair rfl hb (pairLow_sdivPair _ _) (pairHigh_sdivPair _ _)

/-- Settles O15: the two words of the exact product. -/
theorem multiplyResults : Obligations.MultiplyResults := by
  refine ⟨?_, ?_, fun rd rs1 src s => ⟨?_, ?_⟩⟩
  iterate 2 exact format3_of_encode fun _ _ _ => ⟨rfl, rfl⟩
  · exact writesRegY_of_multiply rs1 src umulPair rfl (pairLow_ofNat _) (pairHigh_ofNat _)
  · exact writesRegY_of_multiply rs1 src smulPair rfl (pairLow_ofInt _) (pairHigh_ofInt _)

/-- Settles O16: the two words of the exact product, and the flags of both words. -/
theorem multiplyFlags : Obligations.MultiplyFlags := by
  refine ⟨?_, ?_, fun rd rs1 src s => ⟨?_, ?_⟩⟩
  iterate 2 exact format3_of_encode fun _ _ _ => ⟨rfl, rfl⟩
  · exact writesRegYFlags_of_multiplyCc rs1 src umulPair iccUmul rfl (pairLow_ofNat _) (pairHigh_ofNat _)
      (iccUmul_eq (pairLow_ofNat _) (pairHigh_ofNat _))
  · exact writesRegYFlags_of_multiplyCc rs1 src smulPair iccSmul rfl (pairLow_ofInt _) (pairHigh_ofInt _)
      (iccSmul_eq (pairLow_ofInt _) (pairHigh_ofInt _))

/-- Settles O17: the fault of a zero divisor, else the two words of the pair. -/
theorem divideResults : Obligations.DivideResults := by
  refine ⟨?_, ?_, fun rd rs1 src s => ?_⟩
  iterate 2 exact format3_of_encode fun _ _ _ => ⟨rfl, rfl⟩
  by_cases hb : s.operand2 src = 0#32
  · simp only [if_pos hb]
    exact ⟨State.divide_zero rs1 src udivPair hb, State.divide_zero rs1 src sdivPair hb⟩
  · simp only [if_neg hb]
    refine ⟨?_, ?_⟩
    · exact writesRegY_of_divide rs1 src udivPair rfl hb (pairLow_append _ _) (pairHigh_append _ _)
    · rw [signedPair_eq_sdivPair]
      exact writesRegY_of_divide rs1 src sdivPair rfl hb rfl rfl

end Sys2Proof.Proofs
end

section
/-! # The control-transfer family: the step, the halt, and the order in which transfers go

A step is said once, by the word it fetches. What a taken transfer, an untaken branch, a jump and an instruction that is
no transfer leave for the next-nPC phase is one lemma each; the tables of rules R165 and R166 are read off the three
cases of that phase. -/

namespace Sys2Proof.Machine

open Sys2Proof.Claims

/-! ## The step, by the word it fetches (rules R160, R161) -/

section Fetched
variable {s : State} {w : Word}

theorem State.readBE_of_fetches (hf : s.fetches w) : s.mem.readBE s.npc.toNat 4 = w :=
  (s.readBE_eq_wordAt _).trans hf.2

theorem step_of_fetches {u : State} (hf : s.fetches w) (h : exec (decodeWord w) s.beginStep = .next u) :
    step s = .next u.endStep :=
  step_next.2 ⟨hf.1, u, by rw [State.readBE_of_fetches hf]; exact h, rfl⟩

theorem step_fault_of_fetches {f : Fault} (hf : s.fetches w) (h : exec (decodeWord w) s.beginStep = .fault f) :
    step s = .fault f :=
  step_fault.2 (.inr ⟨hf.1, by rw [State.readBE_of_fetches hf]; exact h⟩)

end Fetched

/-- A step that completes has fetched some word. -/
theorem exists_fetches_of_step {s t : State} (h : step s = .next t) : ∃ w, s.fetches w :=
  ⟨_, (step_next.1 h).1, rfl⟩

/-! ## The zero word (rule R163) -/

/-- The zero word ends the run before the next-nPC phase. -/
theorem step_of_fetches_zero {s : State} (hf : s.fetches 0#32) :
    step s = .next { s with pc := s.npc, live := false } :=
  step_of_fetches (u := { s.beginStep with live := false }) hf rfl

/-- Every instruction but `HALT0` leaves `live` as it was. -/
theorem exec_live_of_ne_halt0 {i : Instr} {s t : State} (hi : i ≠ .halt0) (h : exec i s = .next t) :
    t.live = s.live := by
  cases i with simp only [exec] at h
  | halt0 => exact absurd rfl hi
  | bn | be | ble | bl | bleu | bcs | bneg | bvs | ba | bne | bg | bge | bgu | bcc | bpos | bvc =>
    obtain ⟨-, rfl⟩ | ⟨-, -, rfl⟩ | ⟨-, -, rfl⟩ := State.branch_next.1 h <;> rfl
  | udiv | sdiv => rw [(State.divide_next.1 h).2]; rfl
  | udivcc | sdivcc => rw [(State.divideCc_next.1 h).2]; rfl
  | rdy | rdpsr | rdwim | rdtbr => obtain ⟨-, rfl⟩ | ⟨-, -, rfl⟩ := State.readSpecial_next.1 h <;> rfl
  | wry | wrpsr | wrwim | wrtbr => obtain ⟨-, rfl⟩ | ⟨-, rfl⟩ := State.whenSupervisor_next.1 h <;> rfl
  | ld | ldub | lduh | ldsb | ldsh => rw [(State.load_next.1 h).2]; rfl
  | st | stb | sth => rw [(State.store_next.1 h).2]; rfl
  | ldd => obtain ⟨-, -, rfl⟩ := execLdd_next.1 h; rfl
  | std => obtain ⟨-, -, rfl⟩ := execStd_next.1 h; rfl
  | nop | sethi | call | jmpl | add | and | or | xor | sub | andn | orn | xnor | addx | subx | sll | srl | sra | addcc
  | addxcc | subcc | subxcc | andcc | andncc | orcc | orncc | xorcc | xnorcc | umul | umulcc | smul | smulcc | save
  | restore | fbfcc | cbccc | fpop1 | fpop2 | cpop1 | cpop2 | ldf | ldfsr | lddf | stf | stfsr | stdfq | stdf | ldc
  | ldcsr | lddc | stc | stcsr | stdcq | stdc => cases h; rfl
  | _ => nomatch h

/-- A step that halts has fetched the zero word: no other word decodes to `HALT0`. -/
theorem fetches_zero_of_step {s t : State} (h : step s = .next t) (hl : t.live = false) : s.fetches 0#32 := by
  obtain ⟨w, hf⟩ := exists_fetches_of_step h
  obtain ⟨u, hexec, rfl⟩ := exec_of_step_of_fetches hf h
  have hhalt : decodeWord w = .halt0 := by
    by_contra hne
    have hlive : u.live = true := exec_live_of_ne_halt0 hne hexec
    rw [State.endStep_live, hlive] at hl
    cases hl
  have hw : w = 0#32 := (decodeWord_eq_iff (i := .halt0) (by decide) w).1 hhalt
  rwa [hw] at hf

/-! ## The targets (rules R67, R170, R172) -/

/-- A displacement in words, sign-extended and scaled, is added modulo `2^32`. -/
theorem add_signExtend_shiftLeft_two {n : Nat} (pc : Word) (disp : BitVec n) :
    pc + disp.signExtend 32 <<< 2 = BitVec.ofInt 32 (pc.toNat + 4 * disp.toInt) := by
  have hscale : disp.signExtend 32 <<< 2 = 4#32 * BitVec.ofInt 32 disp.toInt := by
    rw [BitVec.shiftLeft_eq_mul_twoPow, BitVec.mul_comm]
    rfl
  rw [hscale, BitVec.ofInt_add, BitVec.ofInt_mul, BitVec.ofInt_natCast, BitVec.ofNat_toNat, BitVec.setWidth_eq]
  rfl

/-! ## What the transfers leave for the next-nPC phase (rules R170, R172, R173) -/

section Transfers
variable {s : State} {w : Word}

theorem decodeWord_of_isCall (h : IsCall w) : decodeWord w = .call (fieldDisp30 w) :=
  (decodeWord_eq_iff (i := .call (fieldDisp30 w)) rfl w).2 (encode_call_of_fields h).symm

theorem decodeWord_of_isJmpl (h : IsJmpl w) : decodeWord w = .jmpl (fieldRd w) (fieldRs1 w) (fieldSrc w) :=
  (decodeWord_eq_iff (i := .jmpl (fieldRd w) (fieldRs1 w) (fieldSrc w)) rfl w).2 (encodeFormat3_of_fields h.1 h.2).symm

theorem exec_decodeWord_of_isBicc (h : IsBicc w) (t : State) :
    exec (decodeWord w) t = t.branch (fieldCond w) (fieldA w) (fieldImm22 w) := by
  have hb := exec_of_isBicc (i := decodeWord w) (by rwa [encode_decodeWord]) t
  rwa [encode_decodeWord] at hb

/-- A taken branch and a call set the latches with a delay slot; the branch links to `%g0`, which discards it. -/
theorem exec_of_taken (h : IsBicc w ∧ s.taken w ∨ IsCall w) :
    ∃ rd v, exec (decodeWord w) s.beginStep =
      .next ((s.beginStep.writeReg rd v).setLatches (targetOf w s.npc) true) := by
  obtain ⟨hw, htaken⟩ | hw := h
  · have htarget : targetOf w s.npc = s.npc + branchOffset (fieldImm22 w) := by
      rw [targetOf, if_neg (by rw [hw.1]; decide), branchOffset, add_signExtend_shiftLeft_two]
    refine ⟨0#5, 0#32, ?_⟩
    rw [State.writeReg_zero, htarget, exec_decodeWord_of_isBicc hw]
    exact State.branch_next.2 (.inl ⟨htaken, rfl⟩)
  · have htarget : targetOf w s.npc = s.npc + callOffset (fieldDisp30 w) := by
      rw [targetOf, if_pos (show fieldOp w = 1#2 from hw), callOffset, add_signExtend_shiftLeft_two]
    refine ⟨15#5, s.beginStep.linkValue, ?_⟩
    rw [htarget, decodeWord_of_isCall hw]
    rfl

/-- Where an untaken branch `w` leaves `PC` (rule R170): on the annulled word, or on the branch. -/
def State.untakenPc (s : State) (w : Word) : Word := if fieldA w = 1#1 then s.npc + 4#32 else s.npc

theorem State.untakenPc_of_annul (s : State) {w : Word} (h : fieldA w = 1#1) : s.untakenPc w = s.npc + 4#32 := if_pos h

theorem State.untakenPc_of_not_annul (s : State) {w : Word} (h : fieldA w = 0#1) : s.untakenPc w = s.npc :=
  if_neg (by rw [h]; decide)

/-- An untaken branch moves `PC` if it annuls, and does nothing else. -/
theorem exec_of_untaken (h : IsBicc w) (hnot : ¬ s.taken w) :
    exec (decodeWord w) s.beginStep = .next { s.beginStep with pc := s.untakenPc w } := by
  have hpred : branchPred s.beginStep.icc (fieldCond w) = false := Bool.eq_false_iff.2 hnot
  rw [exec_decodeWord_of_isBicc h]
  by_cases ha : fieldA w = 1#1
  · exact State.branch_next.2 (.inr (.inl ⟨hpred, ha, by rw [State.untakenPc, if_pos ha]; rfl⟩))
  · exact State.branch_next.2 (.inr (.inr ⟨hpred, ha, by rw [State.untakenPc, if_neg ha]; rfl⟩))

/-- A jump sets the latches without a delay slot. -/
theorem exec_of_isJmpl (h : IsJmpl w) :
    ∃ rd v, exec (decodeWord w) s.beginStep =
      .next ((s.beginStep.writeReg rd v).setLatches (jumpTarget s w) false) := by
  refine ⟨fieldRd w, s.beginStep.linkValue, ?_⟩
  rw [decodeWord_of_isJmpl h, jumpTarget, ← State.readReg_beginStep, ← State.operand2_beginStep]
  rfl

/-- An instruction that is no transfer leaves `PC` and the latches. -/
theorem exec_of_not_isTransfer {u : State} (h : ¬ IsTransfer w) (hexec : exec (decodeWord w) s.beginStep = .next u) :
    u.pc = s.npc ∧ u.branchPending = s.branchPending ∧ u.executeDelaySlot = s.executeDelaySlot ∧
      u.branchTarget = s.branchTarget := by
  have hpc : u.pc = s.npc := by
    by_contra hne
    have hbicc := (exec_pc hexec hne).1
    rw [encode_decodeWord] at hbicc
    exact h (.inl hbicc)
  have hlatches : (u.branchPending, u.executeDelaySlot, u.branchTarget) =
      (s.branchPending, s.executeDelaySlot, s.branchTarget) := by
    by_contra hne
    have htransfer := exec_latches hexec hne
    rw [encode_decodeWord] at htransfer
    exact h htransfer
  simp only [Prod.mk.injEq] at hlatches
  exact ⟨hpc, hlatches⟩

end Transfers

/-! ## The control state that the next-nPC phase leaves (rule R164) -/

section Control
variable {s : State} (hl : s.live = true)
include hl

theorem State.endStep_of_live : s.endStep = s.nextNpcPhase := if_pos hl

theorem control_endStep_of_delaySlot (hp : s.branchPending = true) (hd : s.executeDelaySlot = true) :
    control s.endStep = (s.pc, s.pc + 4#32, true, false) := by
  rw [State.endStep_of_live hl, State.nextNpcPhase_of_delaySlot hp hd, Claims.control, hp]

theorem control_endStep_of_pending (hp : s.branchPending = true) (hd : s.executeDelaySlot = false) :
    control s.endStep = (s.pc, s.branchTarget, false, false) := by
  rw [State.endStep_of_live hl, State.nextNpcPhase_of_pending hp hd, Claims.control, hd]

theorem control_endStep_of_idle (hp : s.branchPending = false) (hd : s.executeDelaySlot = false) :
    control s.endStep = (s.pc, s.pc + 4#32, false, false) := by
  rw [State.endStep_of_idle hl hp, Claims.control, hp, hd]

end Control

theorem control_eq_iff {s : State} {pc npc : Word} {pending delay : Bool} :
    control s = (pc, npc, pending, delay) ↔
      s.pc = pc ∧ s.npc = npc ∧ s.branchPending = pending ∧ s.executeDelaySlot = delay := by
  simp only [Claims.control, Prod.mk.injEq]

/-! ## One step of each kind, from the control state before it (rules R165, R166) -/

section Steps
variable {s : State} {w : Word} (hf : s.fetches w)

/-- A plain step has run an instruction that leaves `PC` and the latches, and then the next-nPC phase. -/
theorem exec_of_plainStep {t : State} (h : PlainStep s t) :
    ∃ u : State, u.live = true ∧ t = u.endStep ∧ u.pc = s.npc ∧ u.branchPending = s.branchPending ∧
      u.executeDelaySlot = s.executeDelaySlot ∧ u.branchTarget = s.branchTarget := by
  obtain ⟨hstep, hlive, hplain⟩ := h
  obtain ⟨w, hf⟩ := exists_fetches_of_step hstep
  obtain ⟨u, hexec, rfl⟩ := exec_of_step_of_fetches hf hstep
  exact ⟨u, (State.endStep_live u).symm.trans hlive, rfl, exec_of_not_isTransfer (hplain w hf) hexec⟩

/-- A plain step with a transfer pending goes to its target. -/
theorem control_of_plainStep_of_pending {t : State} (h : PlainStep s t) (hp : s.branchPending = true)
    (hd : s.executeDelaySlot = false) : control t = (s.npc, s.branchTarget, false, false) := by
  obtain ⟨u, hlive, rfl, hpc, hpend, hdelay, htarget⟩ := exec_of_plainStep h
  rw [control_endStep_of_pending hlive (hpend.trans hp) (hdelay.trans hd), hpc, htarget]

/-- A plain step with no transfer pending goes on to the next word. -/
theorem control_of_plainStep_of_idle {t : State} (h : PlainStep s t) (hp : s.branchPending = false)
    (hd : s.executeDelaySlot = false) : control t = (s.npc, s.npc + 4#32, false, false) := by
  obtain ⟨u, hlive, rfl, hpc, hpend, hdelay, -⟩ := exec_of_plainStep h
  rw [control_endStep_of_idle hlive (hpend.trans hp) (hdelay.trans hd), hpc]

include hf

/-- A taken branch or a call, whatever was pending: its own target is pending, and its slot comes next. -/
theorem step_of_taken (h : IsBicc w ∧ s.taken w ∨ IsCall w) :
    ∃ t, step s = .next t ∧ t.live = true ∧ control t = (s.npc, s.npc + 4#32, true, false) ∧
      t.branchTarget = targetOf w s.npc := by
  obtain ⟨rd, v, hexec⟩ := exec_of_taken h
  refine ⟨_, step_of_fetches hf hexec, ?_, control_endStep_of_delaySlot rfl rfl rfl, ?_⟩
  · rw [State.endStep_live]; rfl
  · rw [State.endStep_branchTarget]; rfl

/-- A jump, whatever was pending: its target comes next. -/
theorem step_of_isJmpl (h : IsJmpl w) :
    ∃ t, step s = .next t ∧ t.live = true ∧ control t = (s.npc, jumpTarget s w, false, false) := by
  obtain ⟨rd, v, hexec⟩ := exec_of_isJmpl h
  refine ⟨_, step_of_fetches hf hexec, ?_, control_endStep_of_pending rfl rfl rfl⟩
  rw [State.endStep_live]; rfl

/-- An untaken branch with no transfer pending: the word after the one at `PC`, moved or not, comes next. -/
theorem step_of_untaken_of_idle (h : IsBicc w) (hnot : ¬ s.taken w) (hp : s.branchPending = false)
    (hd : s.executeDelaySlot = false) :
    ∃ t, step s = .next t ∧ t.live = true ∧ control t = (s.untakenPc w, s.untakenPc w + 4#32, false, false) := by
  refine ⟨_, step_of_fetches hf (exec_of_untaken h hnot), ?_, control_endStep_of_idle rfl hp hd⟩
  rw [State.endStep_live]; rfl

/-- An untaken branch in a delay slot: the pending target comes next. -/
theorem step_of_untaken_of_pending (h : IsBicc w) (hnot : ¬ s.taken w) (hp : s.branchPending = true)
    (hd : s.executeDelaySlot = false) :
    ∃ t, step s = .next t ∧ control t = (s.untakenPc w, s.branchTarget, false, false) :=
  ⟨_, step_of_fetches hf (exec_of_untaken h hnot), control_endStep_of_pending rfl hp hd⟩

end Steps

/-! ## Comparison by subtraction (rules R106, R171) -/

/-- Bit 3 of `cond` inverts the predicate. -/
theorem branchPred_add_eight_iff (f : Icc) (cond : BitVec 4) :
    branchPred f (cond + 8#4) = true ↔ ¬ branchPred f cond = true := by
  have hbits : ∀ c : BitVec 4,
      (c + 8#4).extractLsb' 0 3 = c.extractLsb' 0 3 ∧ (c + 8#4).getLsbD 3 = !c.getLsbD 3 := by decide
  obtain ⟨hbase, hbit⟩ := hbits cond
  rw [branchPred, branchPred, hbase, hbit]
  simp

section Compare
variable (a b : Word)

theorem iccSub_z_iff : (iccSub a b false).z = true ↔ a = b := by
  simp only [iccSub, subWords_false, beq_iff_eq]
  exact sub_eq_zero

theorem iccSub_c_iff_lt : (iccSub a b false).c = true ↔ a.toNat < b.toNat := by
  rw [iccSub_c_iff, Bool.toNat_false]
  omega

/-- The sign of the difference is that of the exact one, or the other one when it overflows. -/
theorem iccSub_n_xor_v_iff : ((iccSub a b false).n ^^ (iccSub a b false).v) = true ↔ a.toInt < b.toInt := by
  have hn : (iccSub a b false).n = true ↔ (subWords a b false).toInt < 0 := isNeg_iff _
  have hv := iccSub_v_iff a b false
  have ha := signed_bounds a
  have hb := signed_bounds b
  rw [Bool.xor_iff_ne, ne_eq, Bool.eq_iff_iff, hn, hv, toInt_subWords, OutsideWord, Bool.toNat_false]
  simp only [Int.bmod_def, Nat.reducePow, Nat.cast_ofNat, Nat.cast_zero]
  omega

end Compare

end Sys2Proof.Machine

namespace Sys2Proof.Proofs

open Sys2Proof Sys2Proof.Machine Sys2Proof.Claims

/-- Settles O26: `HALT0` clears `live` by definition, and a halted step skips the next-nPC phase. -/
theorem zeroWordHalts : Obligations.ZeroWordHalts :=
  ⟨fun _ => rfl, fun _ hf => step_of_fetches_zero hf⟩

/-- Settles O35: the bounds of the fetch, then the outcomes of the instruction one by one; none is a refusal. -/
theorem stepRunsDecoded : Obligations.StepRunsDecoded := by
  intro s m byte
  split_ifs with hout
  · exact step_fault.2 (.inl ⟨hout, rfl⟩)
  · intro i rest hdec
    obtain rfl : decodeWord (s.wordAt s.npc.toNat) = i := by cases hdec; rfl
    have hf : s.fetches (s.wordAt s.npc.toNat) := ⟨Nat.not_lt.1 hout, rfl⟩
    exact ⟨wellFormed_decodeWord _, fun _ hnext => step_of_fetches hf hnext,
      fun _ hfault => step_fault_of_fetches hf hfault, fun _ hrefused => absurd hrefused (exec_ne_refused _ _ _)⟩

/-- Settles O43: the halting step fetched the zero word and left `nPC` and memory, so the next step fetches it again. -/
theorem haltPersists : Obligations.HaltPersists := by
  intro s t h hl
  have hf := fetches_zero_of_step h hl
  obtain rfl : { s with pc := s.npc, live := false } = t :=
    Host.Outcome.next.inj ((step_of_fetches_zero hf).symm.trans h)
  exact ⟨hf, rfl, step_of_fetches_zero (s := { s with pc := s.npc, live := false }) hf⟩

/-- Settles O37: the transfer from the step lemmas, then the slot and the target as plain steps. -/
theorem transferOrder : Obligations.TransferOrder := by
  intro s w hf hp hd b target
  refine ⟨fun h => ?_, fun ⟨hw, hnot, ha⟩ => ?_, fun ⟨hw, hnot, ha⟩ => ?_, step_of_isJmpl hf⟩
  · obtain ⟨t, hstep, hlive, hctl, htarget⟩ := step_of_taken hf h
    refine ⟨t, hstep, hlive, hctl, htarget, fun t2 hslot => ?_⟩
    obtain ⟨-, hnpc, hpend, hdelay⟩ := control_eq_iff.1 hctl
    have hctl2 := control_of_plainStep_of_pending hslot hpend hdelay
    rw [hnpc, htarget] at hctl2
    refine ⟨hctl2, fun t3 hplain => ?_⟩
    obtain ⟨-, hnpc2, hpend2, hdelay2⟩ := control_eq_iff.1 hctl2
    rw [control_of_plainStep_of_idle hplain hpend2 hdelay2, hnpc2]
  · have hstep := step_of_untaken_of_idle hf hw hnot hp hd
    rwa [s.untakenPc_of_not_annul ha] at hstep
  · have hstep := step_of_untaken_of_idle hf hw hnot hp hd
    rwa [s.untakenPc_of_annul ha, BitVec.add_assoc] at hstep

/-- Settles O38: a taken transfer and a jump do not look at the pending one, and an untaken branch leaves it. -/
theorem transferCouples : Obligations.TransferCouples := by
  intro s w hf hp hd b
  refine ⟨fun h => ?_, fun h => ?_, fun ⟨hw, hnot, ha⟩ => ?_, fun ⟨hw, hnot, ha⟩ => ?_⟩
  · obtain ⟨t, hstep, -, hctl, htarget⟩ := step_of_taken hf h
    refine ⟨t, hstep, hctl, htarget, fun t2 hslot => ?_⟩
    obtain ⟨-, hnpc, hpend, hdelay⟩ := control_eq_iff.1 hctl
    rw [control_of_plainStep_of_pending hslot hpend hdelay, hnpc, htarget]
  · obtain ⟨t, hstep, -, hctl⟩ := step_of_isJmpl hf h
    exact ⟨t, hstep, hctl⟩
  · have hstep := step_of_untaken_of_pending hf hw hnot hp hd
    rwa [s.untakenPc_of_not_annul ha] at hstep
  · have hstep := step_of_untaken_of_pending hf hw hnot hp hd
    rwa [s.untakenPc_of_annul ha] at hstep

/-- Settles O51: `Z`, `C` and `N xor V` after the subtraction are equality and the two orders, and each predicate is a
combination of these. -/
theorem compareThenBranch : Obligations.CompareThenBranch := by
  intro rd rs1 src s t h a b p
  have hp : p = branchPred (iccSub a b false) :=
    congrArg branchPred (State.icc_of_aluCc (f := (subWords · · false)) (flags := (iccSub · · false)) h)
  have hinv := branchPred_add_eight_iff (iccSub a b false)
  have hbe : p 1#4 = true ↔ a = b := by
    rw [hp, ← iccSub_z_iff]
    simp [branchPred, branchBase]
  have hbl : p 3#4 = true ↔ a.toInt < b.toInt := by
    rw [hp, ← iccSub_n_xor_v_iff]
    simp [branchPred, branchBase]
  have hble : p 2#4 = true ↔ a.toInt ≤ b.toInt := by
    rw [hp, le_iff_lt_or_eq, BitVec.toInt_inj, ← iccSub_n_xor_v_iff, ← iccSub_z_iff]
    simp [branchPred, branchBase, or_comm]
  have hbcs : p 5#4 = true ↔ a.toNat < b.toNat := by
    rw [hp, ← iccSub_c_iff_lt]
    simp [branchPred, branchBase]
  have hbleu : p 4#4 = true ↔ a.toNat ≤ b.toNat := by
    rw [hp, le_iff_lt_or_eq, BitVec.toNat_inj, ← iccSub_c_iff_lt, ← iccSub_z_iff]
    simp [branchPred, branchBase]
  rw [← hp] at hinv
  exact ⟨hbe, (hinv 1#4).trans (not_congr hbe), hbl, hble, (hinv 2#4).trans ((not_congr hble).trans not_le),
    (hinv 3#4).trans ((not_congr hbl).trans not_lt), hbcs, hbleu, (hinv 4#4).trans ((not_congr hbleu).trans not_le),
    (hinv 5#4).trans ((not_congr hbcs).trans not_lt)⟩

end Sys2Proof.Proofs
end

section
/-! # The special-register family: `SETHI` and `NOP`, the writes, and the read after a write

A read and a write each go through one gate, `State.readSpecial` and `State.whenSupervisor`. With what each gate does
said once, a statement about the four registers is one line for each. -/

namespace Sys2Proof.Machine

/-! ## The word that `SETHI` writes (rules R190, R191) -/

theorem sethiValue_eq_shiftLeft (imm22 : BitVec 22) : sethiValue imm22 = imm22.setWidth 32 <<< 10 := by
  apply BitVec.eq_of_toNat_eq
  have := imm22.isLt
  rw [sethiValue, BitVec.toNat_append, BitVec.toNat_shiftLeft, BitVec.toNat_setWidth, Nat.shiftLeft_eq,
    Nat.shiftLeft_eq, BitVec.toNat_ofNat, Nat.zero_mod, Nat.or_zero]
  omega

/-- `NOP` is the twin of `sethi 0, %g0`: the decoder tells them apart, their meaning does not. -/
theorem exec_decodeWord_sethi (rd : RegNum) (imm22 : BitVec 22) (s : State) :
    exec (decodeWord (encodeFormat2 4#3 rd imm22)) s = exec (.sethi rd imm22) s := by
  by_cases htwin : Instr.sethi rd imm22 = .sethi 0#5 0#22
  · obtain ⟨rfl, rfl⟩ := Instr.sethi.inj htwin
    rw [show decodeWord (encodeFormat2 4#3 0#5 0#22) = .nop by decide]
    rfl
  · have hwf : (Instr.sethi rd imm22).wellFormed = true :=
      (Instr.wellFormed_iff _).2 ⟨htwin, by simp⟩
    rw [(decodeWord_eq_iff hwf (encodeFormat2 4#3 rd imm22)).2 rfl]

/-! ## One register written, and nothing else -/

section Templates
variable {i : Instr} {s t : State} {rd : RegNum} {v : Word}

theorem writesReg_of_writeReg (hi : exec i s = .next (s.writeReg rd v)) : WritesReg i s rd v :=
  ⟨s.writeReg rd v, hi, .of_write rfl, rfl, fun _ => rfl⟩

/-- A write to `%g0` is discarded (rule R14). -/
theorem noEffect_of_writesReg_zero (h : WritesReg i s 0#5 v) : NoEffect i s := by
  obtain ⟨t, hexec, hw, ht, -⟩ := h
  rw [hw.zero rfl] at ht
  rwa [ht] at hexec

/-! ## The gates of the reads and of the writes (rules R194 to R201) -/

theorem writesReg_of_readSpecial (hi : exec i s = s.readSpecial rd v)
    (hopen : s.cfg.rdPrivCheck = false ∨ s.psr.getLsbD 7 = true) : WritesReg i s rd v :=
  writesReg_of_writeReg (hi.trans (State.readSpecial_next.2 (.inl ⟨hopen, rfl⟩)))

theorem noEffect_of_readSpecial (hi : exec i s = s.readSpecial rd v)
    (hshut : ¬ (s.cfg.rdPrivCheck = false ∨ s.psr.getLsbD 7 = true)) : NoEffect i s := by
  obtain ⟨hcheck, huser⟩ := not_or.1 hshut
  exact hi.trans (State.readSpecial_next.2
    (.inr ⟨Bool.eq_true_of_not_eq_false hcheck, Bool.eq_false_of_not_eq_true huser, rfl⟩))

theorem exec_of_whenSupervisor (hi : exec i s = s.whenSupervisor t) (hs : s.psr.getLsbD 7 = true) :
    exec i s = .next t :=
  hi.trans (State.whenSupervisor_next.2 (.inl ⟨hs, rfl⟩))

theorem noEffect_of_whenSupervisor (hi : exec i s = s.whenSupervisor t) (hs : ¬ s.psr.getLsbD 7 = true) :
    NoEffect i s :=
  hi.trans (State.whenSupervisor_next.2 (.inr ⟨Bool.eq_false_of_not_eq_true hs, rfl⟩))

/-- What a write left in supervisor mode is the one state that it names. -/
theorem eq_of_whenSupervisor {u : State} (hi : exec i s = s.whenSupervisor t) (hs : s.psr.getLsbD 7 = true)
    (h : exec i s = .next u) : u = t :=
  Host.Outcome.next.inj (h.symm.trans (exec_of_whenSupervisor hi hs))

end Templates

end Sys2Proof.Machine

namespace Sys2Proof.Proofs

open Sys2Proof Sys2Proof.Machine Sys2Proof.Claims

/-- Settles O54: a write leaves `PSR.S` alone, so the read finds its gate open; `WRPSR` leaves there what it wrote. -/
theorem specialRoundTrip : Obligations.SpecialRoundTrip := by
  intro rd rs1 rd' rs1' src src' s t hs x
  refine ⟨fun h => ?_, fun h => ?_, fun h => ?_, fun h => ?_⟩
  · obtain rfl := eq_of_whenSupervisor rfl hs h
    exact writesReg_of_readSpecial rfl (.inr hs)
  · obtain rfl := eq_of_whenSupervisor rfl hs h
    exact writesReg_of_readSpecial rfl (.inr hs)
  · obtain rfl := eq_of_whenSupervisor rfl hs h
    exact writesReg_of_readSpecial rfl (.inr hs)
  · obtain rfl := eq_of_whenSupervisor rfl hs h
    split_ifs with hopen
    · exact writesReg_of_readSpecial rfl hopen.symm
    · exact noEffect_of_readSpecial rfl fun h => hopen h.symm

/-- Settles O19: all words of the encoding mean `SETHI`, whose write to `%g0` is discarded. -/
theorem sethiAndNop : Obligations.SethiAndNop := by
  have hsethi (rd : RegNum) (imm22 : BitVec 22) (s : State) :
      WritesReg (.sethi rd imm22) s rd (imm22.setWidth 32 <<< 10) :=
    sethiValue_eq_shiftLeft imm22 ▸ writesReg_of_writeReg rfl
  have hword (rd : RegNum) (imm22 : BitVec 22) (s : State) :
      WritesReg (decodeWord (encodeFormat2 4#3 rd imm22)) s rd (imm22.setWidth 32 <<< 10) :=
    sethiValue_eq_shiftLeft imm22 ▸ writesReg_of_writeReg (exec_decodeWord_sethi rd imm22 s)
  have hnop (s : State) : NoEffect .nop s := congrArg Host.Outcome.next (s.writeReg_zero _)
  refine ⟨fun rd imm22 s => ⟨hword rd imm22 s, hsethi rd imm22 s, ?_, ?_⟩, fun s => ⟨?_, hnop s⟩⟩
  · exact noEffect_of_writesReg_zero (hword 0#5 imm22 s)
  · exact noEffect_of_writesReg_zero (hsethi 0#5 imm22 s)
  · rw [show decodeWord 0x01000000#32 = .nop by decide]
    exact hnop s

/-- Settles O21: the op3 numbers, then the gate on `PSR.S`. -/
theorem specialWrites : Obligations.SpecialWrites := by
  refine ⟨?_, ?_, ?_, ?_, fun rd rs1 src s => ?_⟩
  iterate 4 exact format3_of_encode fun _ _ _ => ⟨rfl, rfl⟩
  intro v
  split_ifs with hs
  · exact ⟨exec_of_whenSupervisor rfl hs, exec_of_whenSupervisor rfl hs, exec_of_whenSupervisor rfl hs,
      exec_of_whenSupervisor rfl hs⟩
  · exact ⟨noEffect_of_whenSupervisor rfl hs, noEffect_of_whenSupervisor rfl hs, noEffect_of_whenSupervisor rfl hs,
      noEffect_of_whenSupervisor rfl hs⟩

end Sys2Proof.Proofs
end

section
/-! # The load and store family: one access, its faults and its bytes, and the load after a store

`State.load` and `State.store` are the two templates. What each does at any width is said once; a statement about the
eight forms of one access is then the bytes at its width. The doubleword pair differs in its two words, which never
overlap, and in its two registers, which never share a cell. -/

namespace Sys2Proof.Machine

/-! ## The extensions (rule R7) -/

/-! A value of `n` bits that a word holds is extended as itself. -/

theorem zext_setWidth {n : Nat} (x : BitVec n) (h : n ≤ 32) : zext n (x.setWidth 32) = x.setWidth 32 := by
  rw [zext, BitVec.setWidth_setWidth_of_le _ h, BitVec.setWidth_eq]

theorem sext_setWidth {n : Nat} (x : BitVec n) (h : n ≤ 32) : sext n (x.setWidth 32) = x.signExtend 32 := by
  rw [sext, BitVec.setWidth_setWidth_of_le _ h, BitVec.setWidth_eq]

theorem zext_zext {n : Nat} (x : Word) (h : n ≤ 32) : zext n (zext n x) = zext n x := zext_setWidth (x.setWidth n) h

theorem sext_zext {n : Nat} (x : Word) (h : n ≤ 32) : sext n (zext n x) = sext n x := sext_setWidth (x.setWidth n) h

theorem zext_word (x : Word) : zext 32 x = x := by rw [zext, BitVec.setWidth_eq, BitVec.setWidth_eq]

theorem getLsbD_zext (n : Nat) (x : Word) (i : Nat) : (zext n x).getLsbD i = (decide (i < n) && x.getLsbD i) := by
  by_cases hi : i < 32
  · simp [zext, hi]
  · rw [BitVec.getLsbD_of_ge _ _ (by omega), BitVec.getLsbD_of_ge x _ (by omega), Bool.and_false]

/-- Zero-extension of the low `n` bits is the mask of rule R23. -/
theorem zext_eq_and (n : Nat) (x : Word) : zext n x = x &&& fieldMask n := by
  apply BitVec.eq_of_getLsbD_eq
  intro i hi
  rw [getLsbD_zext, BitVec.getLsbD_and, getLsbD_fieldMask, Bool.and_comm, decide_eq_decide.2 (and_iff_right hi)]

/-! ## Reading back what was written (rules R41, R42, R43) -/

/-- One more byte above the low `n`. -/
theorem zext_succ_byte (n : Nat) (v : Word) :
    (v.extractLsb' (8 * n) 8).setWidth 32 <<< (8 * n) ||| zext (8 * n) v = zext (8 * (n + 1)) v := by
  apply BitVec.eq_of_getLsbD_eq
  intro i hi
  rw [BitVec.getLsbD_or, BitVec.getLsbD_shiftLeft, BitVec.getLsbD_setWidth, BitVec.getLsbD_extractLsb', getLsbD_zext,
    getLsbD_zext]
  by_cases hlow : i < 8 * n
  · have hsucc : i < 8 * (n + 1) := by omega
    simp [hlow, hsucc]
  · have hindex : 8 * n + (i - 8 * n) = i := by omega
    have hbyte : i - 8 * n < 8 ↔ i < 8 * (n + 1) := by omega
    have hword : i - 8 * n < 32 := by omega
    simp [hlow, hi, hindex, hbyte, hword]

/-- A big-endian read does not see a write beside it. -/
theorem Memory.readBE_writeBE_disjoint (m : Memory) {a b k n : Nat} (v : Word) (h : a + n ≤ b ∨ b + k ≤ a) :
    (m.writeBE b v k).readBE a n = m.readBE a n := by
  induction n generalizing a with
  | zero => rfl
  | succ n ih =>
    rw [Memory.readBE, Memory.readBE, ih (by omega), Memory.readByte_writeBE_outside _ _ _ _ _ (by omega)]

/-- A big-endian read at the place of a write gives the bytes written. -/
theorem Memory.readBE_writeBE_same (m : Memory) (a : Nat) (v : Word) (n : Nat) :
    (m.writeBE a v n).readBE a n = zext (8 * n) v := by
  induction n generalizing m a with
  | zero => exact BitVec.eq_of_getLsbD_eq fun i _ => by simp [Memory.readBE, getLsbD_zext]
  | succ n ih =>
    rw [Memory.writeBE, Memory.readBE, ih, Memory.readByte_writeBE_outside _ _ _ _ _ (by omega),
      Memory.readByte_writeByte_same, zext_succ_byte]

/-! ## The checks (rules R44, R45): blind to the kind of access and to the bytes of memory -/

theorem State.accessFault_eq_none {s : State} {addr : Word} {n : Nat} {kind : AccessKind} :
    s.accessFault addr n kind = none ↔ s.misaligned addr n = false ∧ s.outOfBounds addr n = false := by
  rw [State.accessFault]
  cases s.misaligned addr n <;> cases s.outOfBounds addr n <;> simp

/-- Where a store was possible, a load is. -/
theorem State.accessFault_read_of_write {s t : State} (hcfg : t.cfg = s.cfg) {addr : Word} {n : Nat}
    (h : s.accessFault addr n .write = none) : t.accessFault addr n .read = none := by
  rw [State.accessFault_eq_none, State.misaligned, State.outOfBounds] at h ⊢
  rwa [hcfg]

/-! ## The two templates (rules R210 to R217, R219, R220) -/

section Templates
variable {i j : Instr} {s t : State} {rd rs1 rd' rs1' : RegNum} {src src' : Operand2} {n : Nat} {ext : Word → Word}
  {v : Word}

theorem accesses_of_load (hi : exec i s = s.load rd rs1 src n ext)
    (hv : ext (s.mem.readBE (s.effAddr rs1 src).toNat n) = v) :
    Accesses i s (s.effAddr rs1 src) n .read (WritesReg i s rd v) := by
  have hcases := s.memRead_cases (s.effAddr rs1 src) n
  rw [State.load] at hi
  rw [Accesses]
  split_ifs at hcases ⊢ <;> rw [hcases] at hi
  · exact hi
  · exact hi
  · exact writesReg_of_writeReg (hv ▸ hi)

theorem accesses_of_store (hi : exec i s = s.store rd rs1 src n) :
    Accesses i s (s.effAddr rs1 src) n .write (WritesBytes i s (s.effAddr rs1 src) n (s.readReg rd)) := by
  have hcases := s.memWrite_cases (s.effAddr rs1 src) n (s.readReg rd)
  rw [State.store] at hi
  rw [Accesses]
  split_ifs at hcases ⊢ <;> rw [hcases] at hi
  · exact hi
  · exact hi
  · exact ⟨_, hi, rfl, fun k hk => Memory.readByte_writeBE_inside _ _ _ _ _ hk,
      fun a ha => Memory.readByte_writeBE_outside _ _ _ _ _ ha⟩

/-- The load of the bytes just stored, at any width (rule R221). -/
theorem writesReg_of_load_of_store (hj : exec j s = s.store rd rs1 src n) (hi : exec i t = t.load rd' rs1' src' n ext)
    (hea : t.effAddr rs1' src' = s.effAddr rs1 src) (hv : ext (zext (8 * n) (s.readReg rd)) = v)
    (h : exec j s = .next t) : WritesReg i t rd' v := by
  obtain ⟨hok, rfl⟩ := State.store_next.1 (hj.symm.trans h)
  refine writesReg_of_writeReg (hi.trans (State.load_next.2 ⟨?_, ?_⟩))
  · rw [hea]
    exact State.accessFault_read_of_write rfl hok
  · rw [hea, State.storeBytes_mem, Memory.readBE_writeBE_same, hv]

end Templates

/-! ## The two registers of a doubleword (rules R12, R214) -/

/-- The place of a cell in its group of eight. -/
def PhysReg.index : PhysReg → Fin 8
  | .g i | .o _ i | .l _ i => i

/-- A register number names a cell by its low three bits, whatever the window. -/
theorem index_of_physReg {w k : Nat} {n : RegNum} {p : PhysReg} (h : physReg w k n = some p) :
    p.index = Fin.ofNat 8 n.toNat := by
  unfold physReg at h
  split_ifs at h <;> cases h <;> rfl

/-- Neighbouring register numbers never name one cell. -/
theorem State.cellOf_add_one_ne (s : State) (n : RegNum) : s.cellOf (n + 1#5) ≠ s.cellOf n := by
  intro heq
  by_cases h0 : n = 0#5
  · subst h0
    have hnone : s.cellOf 0#5 = none := (physReg_eq_none _ _ _).2 rfl
    exact absurd ((physReg_eq_none _ _ _).1 (heq.trans hnone)) (by decide)
  · obtain ⟨p, hp⟩ := s.exists_cellOf h0
    have hindex : n.toNat % 8 = (n + 1#5).toNat % 8 :=
      congrArg Fin.val ((index_of_physReg hp).symm.trans (index_of_physReg (heq.trans hp)))
    rw [BitVec.toNat_add, BitVec.toNat_ofNat] at hindex
    omega

theorem add_one_ne_zero_of_even {n : RegNum} (h : n.getLsbD 0 = false) : n + 1#5 ≠ 0#5 := by
  revert n
  decide

/-- What a register write does to a register read (rules R12 to R14). -/
theorem State.readReg_writeReg (s : State) (n m : RegNum) (v : Word) :
    (s.writeReg n v).readReg m = if m = 0#5 then 0#32 else if s.cellOf n = s.cellOf m then v else s.readReg m := by
  have hnone : s.cellOf m = none ↔ m = 0#5 := physReg_eq_none _ _ _
  simp only [State.readReg, State.cellOf_writeReg, State.writeReg_regs, RegFile.read_write, hnone]

/-- Both registers of an even pair hold what was written to them; an `rd` of 0 discards the first (rule R214). -/
theorem State.readReg_writeReg_pair (s : State) {n : RegNum} (h : n.getLsbD 0 = false) (hi lo : Word) :
    ((s.writeReg n hi).writeReg (n + 1#5) lo).readReg n = (if n = 0#5 then 0#32 else hi) ∧
    ((s.writeReg n hi).writeReg (n + 1#5) lo).readReg (n + 1#5) = lo := by
  constructor
  · rw [State.readReg_writeReg, State.readReg_writeReg, State.cellOf_writeReg, State.cellOf_writeReg,
      if_neg (s.cellOf_add_one_ne n), if_pos rfl]
    split_ifs <;> rfl
  · rw [State.readReg_writeReg, if_neg (add_one_ne_zero_of_even h), if_pos rfl]

/-! ## The two words of a doubleword (rules R214, R218) -/

/-- The words at `ea` and at `ea + 4` modulo 2^32 do not overlap, not even where the address wraps. -/
theorem disjoint_add_four (ea : Word) :
    ea.toNat + 4 ≤ (ea + 4#32).toNat ∨ (ea + 4#32).toNat + 4 ≤ ea.toNat := by
  rw [BitVec.toNat_add, BitVec.toNat_ofNat]
  omega

/-- Both words of a doubleword store stand in memory after it. -/
theorem State.readBE_storeBytes_pair (s : State) (ea x y : Word) :
    ((s.storeBytes ea 4 x).storeBytes (ea + 4#32) 4 y).mem.readBE ea.toNat 4 = x ∧
    ((s.storeBytes ea 4 x).storeBytes (ea + 4#32) 4 y).mem.readBE (ea + 4#32).toNat 4 = y := by
  simp only [State.storeBytes_mem]
  constructor
  · rw [Memory.readBE_writeBE_disjoint _ _ (disjoint_add_four ea), Memory.readBE_writeBE_same, zext_word]
  · rw [Memory.readBE_writeBE_same, zext_word]

/-- Where a doubleword store was possible, a doubleword load is. -/
theorem State.doubleFault_read_of_write {s t : State} (hcfg : t.cfg = s.cfg) {ea : Word}
    (h : s.doubleFault ea .write = none) : t.doubleFault ea .read = none := by
  obtain ⟨halign, hhi, hlo⟩ := State.doubleFault_eq_none.1 h
  refine State.doubleFault_eq_none.2
    ⟨?_, State.accessFault_read_of_write hcfg hhi, State.accessFault_read_of_write hcfg hlo⟩
  rwa [State.misaligned, hcfg]

end Sys2Proof.Machine

namespace Sys2Proof.Proofs

open Sys2Proof Sys2Proof.Machine Sys2Proof.Claims

/-- Settles O53: the load passes the checks that the store passed, and reads the bytes that the store wrote. -/
theorem storeThenLoad : Obligations.StoreThenLoad := by
  intro rd rs1 rd' rs1' src src' s t hea x
  refine ⟨fun h => ?_, fun h => ⟨?_, ?_⟩, fun h => ⟨?_, ?_⟩, fun h heven => ?_⟩
  · exact writesReg_of_load_of_store rfl rfl hea (zext_word x) h
  · exact writesReg_of_load_of_store rfl rfl hea ((zext_zext x (by decide)).trans (zext_eq_and 8 x)) h
  · exact writesReg_of_load_of_store rfl rfl hea (sext_zext x (by decide)) h
  · exact writesReg_of_load_of_store rfl rfl hea ((zext_zext x (by decide)).trans (zext_eq_and 16 x)) h
  · exact writesReg_of_load_of_store rfl rfl hea (sext_zext x (by decide)) h
  · obtain ⟨-, hok, rfl⟩ := execStd_next.1 h
    obtain ⟨hx, hy⟩ := s.readBE_storeBytes_pair (s.effAddr rs1 src) x (s.readReg (rd + 1#5))
    refine ⟨_, execLdd_next.2 ⟨heven, ?_, rfl⟩, ?_⟩
    · rw [hea]
      exact State.doubleFault_read_of_write rfl hok
    · rw [hea, hx, hy]
      exact State.readReg_writeReg_pair _ heven _ _

/-- Settles O27: the op3 numbers, then the template at each width with the bytes that stand at the address. -/
theorem loadEffects : Obligations.LoadEffects := by
  refine ⟨?_, ?_, ?_, ?_, ?_, fun rd rs1 src s => ?_⟩
  iterate 5 exact format3_of_encode fun _ _ _ => ⟨rfl, rfl⟩
  refine ⟨rfl, accesses_of_load rfl (s.readBE_eq_wordAt _), accesses_of_load rfl ?_, accesses_of_load rfl ?_,
    accesses_of_load rfl ?_, accesses_of_load rfl ?_⟩
  · rw [Memory.readBE_one, zext_setWidth _ (by decide)]
  · rw [State.readBE_eq_halfAt, zext_setWidth _ (by decide)]
  · rw [Memory.readBE_one, sext_setWidth _ (by decide)]
  · rw [State.readBE_eq_halfAt, sext_setWidth _ (by decide)]

/-- Settles O29: the op3 numbers, then the template at each width. -/
theorem storeEffects : Obligations.StoreEffects := by
  refine ⟨?_, ?_, ?_, fun _ _ _ _ => ⟨rfl, accesses_of_store rfl, accesses_of_store rfl, accesses_of_store rfl⟩⟩
  iterate 3 exact format3_of_encode fun _ _ _ => ⟨rfl, rfl⟩

end Sys2Proof.Proofs
end

section
/-! # The unexecuted family: the FPU and coprocessor no-ops

The rules are R250 to R253 of 46_unexecuted_and_illegal.md. -/

namespace Sys2Proof.Proofs

open Sys2Proof Sys2Proof.Machine Sys2Proof.Claims

/-- Settles O32. The meaning that `exec` gives each of the twenty names no operand and answers its state, so each
equation holds by definition. `exec_of_isNoOp` says the same of every instruction whose word is a no-op word. -/
theorem noOpsChangeNothing : Obligations.NoOpsChangeNothing := by
  intro rd rs1 rs2 src opf a cond disp22 s
  exact ⟨rfl, rfl, rfl, rfl, -- the operates, rule R251
    rfl, rfl, rfl, rfl, rfl, rfl, rfl, -- the floating-point loads and stores, rule R252
    rfl, rfl, rfl, rfl, rfl, rfl, rfl, -- the coprocessor loads and stores, rule R252
    rfl, rfl⟩ -- the branches, rule R253

end Sys2Proof.Proofs
end

section
/-! # The exception family: what user mode protects

The rule is R280 of 60_exceptions.md. In user mode the gate of the writes of special registers is shut, so `TBR` stays,
and of `PSR` only what the `cc` forms and the rotations write can change. -/

namespace Sys2Proof.Machine

/-! ## What the `cc` forms write of `PSR` (rules R24, R100, R142, R144, R147, R149) -/

section FlagTemplates
variable {s t : State} {rd rs1 : RegNum} {src : Operand2}

theorem State.flagsWritten_of_aluCc {f : Word → Word → Word} {flags : Word → Word → Icc}
    (h : s.aluCc rd rs1 src f flags = .next t) : ∃ codes, FlagsWritten s t codes := by
  rw [State.aluCc_next.1 h]
  exact ⟨_, .of_writeIcc (State.writeReg_psr ..) _⟩

theorem State.flagsWritten_of_logicCc {f : Word → Word → Word} (h : s.logicCc rd rs1 src f = .next t) :
    ∃ codes, FlagsWritten s t codes := by
  rw [State.logicCc] at h; exact State.flagsWritten_of_aluCc h

theorem State.flagsWritten_of_multiplyCc {f : Word → Word → BitVec 64} {flags : BitVec 64 → Icc}
    (h : s.multiplyCc rd rs1 src f flags = .next t) : ∃ codes, FlagsWritten s t codes := by
  rw [State.multiplyCc_next.1 h]
  exact ⟨_, .of_writeIcc (State.writePair_psr ..) _⟩

/-- The draw of a free value writes the flags as any other value does, and counts the draw. -/
theorem State.flagsWritten_of_divideCc {f : Word → Word → BitVec 64} (h : s.divideCc rd rs1 src f = .next t) :
    ∃ codes, FlagsWritten s t codes := by
  obtain ⟨-, rfl⟩ := State.divideCc_next.1 h
  obtain ⟨hflags, hothers⟩ := FlagsWritten.of_writeIcc (State.writePair_psr s rd _) (Icc.ofBits (Config.freeIcc _))
  exact ⟨_, hflags, hothers⟩

end FlagTemplates

section UserMode
variable {i : Instr} {s t : State}

/-- An instruction that may write the condition codes writes these and no other bit of `PSR`, or it is `WRPSR`. -/
theorem flagsWritten_of_writesFlags (hi : WritesFlags i) (h : exec i s = .next t) :
    (∃ codes, FlagsWritten s t codes) ∨ ∃ rd rs1 src, i = .wrpsr rd rs1 src := by
  obtain ⟨rd, rs1, src, hi⟩ := hi
  simp only [List.mem_cons, List.not_mem_nil, or_false] at hi
  obtain rfl | rfl | rfl | rfl | rfl | rfl | rfl | rfl | rfl | rfl | rfl | rfl | rfl | rfl | rfl := hi <;>
    simp only [exec] at h
  iterate 4 exact .inl (State.flagsWritten_of_aluCc h)
  iterate 6 exact .inl (State.flagsWritten_of_logicCc h)
  iterate 2 exact .inl (State.flagsWritten_of_multiplyCc h)
  iterate 2 exact .inl (State.flagsWritten_of_divideCc h)
  exact .inr ⟨rd, rs1, src, rfl⟩

/-- An instruction that rotates the window writes `CWP` and no bit of `PSR` above it. -/
theorem getLsbD_psr_of_rotates (hi : Rotates i) (h : exec i s = .next t) {k : Nat} (hk : 5 ≤ k) :
    t.psr.getLsbD k = s.psr.getLsbD k := by
  obtain ⟨rd, rs1, src, hi⟩ := hi
  simp only [List.mem_cons, List.not_mem_nil, or_false] at hi
  obtain rfl | rfl := hi <;> rw [State.rotateAdd_next.1 h, State.writeReg_psr, s.getLsbD_psr_rotate _ hk]

/-! ## What user mode protects (rule R280) -/

/-- What a gated write leaves in user mode is the state before it. -/
theorem eq_of_whenSupervisor_of_user {u : State} (hi : exec i s = s.whenSupervisor u)
    (hs : ¬ s.psr.getLsbD 7 = true) (h : exec i s = .next t) : t = s :=
  Host.Outcome.next.inj (h.symm.trans (noEffect_of_whenSupervisor hi hs))

/-- In user mode `WRTBR` has no effect, and no other instruction writes `TBR`. -/
theorem exec_tbr_of_user (hs : ¬ s.psr.getLsbD 7 = true) (h : exec i s = .next t) : t.tbr = s.tbr := by
  by_contra hne
  obtain ⟨rd, rs1, src, rfl⟩ := exec_tbr h hne
  exact hne (congrArg State.tbr (eq_of_whenSupervisor_of_user rfl hs h))

/-- In user mode `WRPSR` has no effect, and every other instruction writes at most the fields `ICC` and `CWP`. -/
theorem exec_getLsbD_psr_of_user (hs : ¬ s.psr.getLsbD 7 = true) (h : exec i s = .next t) {k : Nat} (hcwp : 5 ≤ k)
    (hicc : k < 20 ∨ 23 < k) : t.psr.getLsbD k = s.psr.getLsbD k := by
  by_cases heq : t.psr = s.psr
  · rw [heq]
  obtain hflags | hrotates := exec_psr h heq
  · obtain ⟨codes, hwritten⟩ | ⟨rd, rs1, src, rfl⟩ := flagsWritten_of_writesFlags hflags h
    · exact hwritten.others k hicc
    · rw [eq_of_whenSupervisor_of_user rfl hs h]
  · exact getLsbD_psr_of_rotates hrotates h hcwp

end UserMode

end Sys2Proof.Machine

namespace Sys2Proof.Proofs

open Sys2Proof Sys2Proof.Machine Sys2Proof.Claims

/-- Settles O44: the phases of the step around the instruction keep `PSR` and `TBR`; bit 7 is one of the bits that the
instruction keeps in user mode. -/
theorem userModeStays : Obligations.UserModeStays := by
  intro s t huser h
  obtain ⟨-, u, hexec, rfl⟩ := step_next.1 h
  have hs : ¬ s.beginStep.psr.getLsbD 7 = true := Bool.eq_false_iff.1 huser
  have hpsr : ∀ k, 5 ≤ k → k < 20 ∨ 23 < k → u.psr.getLsbD k = s.psr.getLsbD k :=
    fun _ hcwp hicc => exec_getLsbD_psr_of_user hs hexec hcwp hicc
  rw [State.endStep_psr, State.endStep_tbr]
  exact ⟨(hpsr 7 (by decide) (.inl (by decide))).trans huser, exec_tbr_of_user (s := s.beginStep) hs hexec, hpsr⟩

end Sys2Proof.Proofs
end

section
/-! # The unexecuted family: the words that fault, and the words that do nothing

One inversion lemma, `exec_stop`, says why an instruction faults; which words fault in which way is read off it in one
direction, and off the fields of the listed words in the other. The rules are R250 to R259 and R273. -/

namespace Sys2Proof

/-! ## The masks of the lists of rules R254 to R259 -/

section Masked
variable (op : BitVec 2) (op2 : BitVec 3) (op3 : BitVec 6) (rd rs1 : RegNum) (src : Operand2) (low22 : BitVec 22)

/-- The mask `0xC1C00000` clears every bit of a format-2 word outside `op` and `op2`. -/
theorem encodeFormat2_and_maskOp2 :
    encodeFormat2 op2 rd low22 &&& 0xC1C00000#32 = encodeFormat2 op2 0#5 0#22 := by
  have hand : (0#2 ++ rd ++ op2 ++ low22) &&& (BitVec.allOnes 2 ++ 0#5 ++ BitVec.allOnes 3 ++ 0#22) =
      0#2 ++ 0#5 ++ op2 ++ 0#22 := by
    simp only [BitVec.and_append, BitVec.and_allOnes, BitVec.and_zero]
  exact hand

/-- The mask `0xC1F80000` clears every bit of a format-3 word outside `op` and `op3`. -/
theorem encodeFormat3_and_maskOp3 :
    encodeFormat3 op op3 rd rs1 src &&& 0xC1F80000#32 = encodeFormat3 op op3 0#5 0#5 (.reg 0#8 0#5) := by
  have hand : (op ++ rd ++ op3 ++ rs1 ++ encodeSrc src) &&&
      (BitVec.allOnes 2 ++ 0#5 ++ BitVec.allOnes 6 ++ 0#5 ++ 0#14) = op ++ 0#5 ++ op3 ++ 0#5 ++ 0#14 := by
    simp only [BitVec.and_append, BitVec.and_allOnes, BitVec.and_zero]
  exact hand

end Masked

end Sys2Proof

namespace Sys2Proof.Machine

/-! ## The words that fault, by their fields -/

/-- The `op3` that are illegal with `op = 2`: those of the five instructions the source never names, and the reserved
ones (rule R258). -/
def illegalArithOp3 : List (BitVec 6) :=
  [0x20#6, 0x21#6, 0x22#6, 0x23#6, 0x24#6] ++
  [0x09#6, 0x0D#6, 0x19#6, 0x1D#6, 0x2C#6, 0x2D#6, 0x2E#6, 0x2F#6, 0x3E#6, 0x3F#6]

/-- The `op3` that are illegal with `op = 3`: those of the four instructions the source never names, and the reserved
ones (rule R258). -/
def illegalMemOp3 : List (BitVec 6) :=
  [0x0D#6, 0x0F#6, 0x1D#6, 0x1F#6] ++
  [0x08#6, 0x0B#6, 0x0C#6, 0x0E#6, 0x18#6, 0x1B#6, 0x1C#6, 0x1E#6, 0x22#6, 0x28#6, 0x29#6, 0x2A#6, 0x2B#6, 0x2C#6,
    0x2D#6, 0x2E#6, 0x2F#6, 0x32#6, 0x38#6, 0x39#6, 0x3A#6, 0x3B#6, 0x3C#6, 0x3D#6, 0x3E#6, 0x3F#6]

/-- The fields of an illegal word, group by group of rule R258. -/
theorem fields_of_isIllegal {w : Word} (h : IsIllegal w) :
    (w ≠ 0#32 ∧ (fieldOp w, fieldOp2 w) ∈ [(0#2, 0#3), (0#2, 1#3), (0#2, 3#3), (0#2, 5#3)]) ∨
    (fieldOp w = 2#2 ∧ fieldOp3 w ∈ illegalArithOp3) ∨ (fieldOp w = 3#2 ∧ fieldOp3 w ∈ illegalMemOp3) ∨
    (fieldOp w = 3#2 ∧ fieldOp3 w ∈ [0x03#6, 0x07#6] ∧ (fieldRd w).getLsbD 0 = true) := by
  have hmasked : ∀ l : List Word, w &&& 0xC1C00000#32 ∈ l →
      (fieldOp w, fieldOp2 w) ∈ l.map fun c => (fieldOp c, fieldOp2 c) := fun l hl => by
    rw [← fields_and_maskOp2]
    exact List.mem_map_of_mem (f := fun c => (fieldOp c, fieldOp2 c)) hl
  obtain ⟨hmask, hne⟩ | hmask | ⟨hop, hop3⟩ | ⟨hop, hop3⟩ | ⟨hop, hop3⟩ | ⟨hop, hop3⟩ | hodd := h
  · exact .inl ⟨hne, List.mem_append_left _ (hmasked [0#32] (by simpa using hmask))⟩
  · refine .inl ⟨?_, List.mem_cons_of_mem _ (hmasked _ hmask)⟩
    rintro rfl
    exact absurd hmask (by decide)
  · exact .inr (.inl ⟨hop, List.mem_append_right _ hop3⟩)
  · exact .inr (.inl ⟨hop, List.mem_append_left _ hop3⟩)
  · exact .inr (.inr (.inl ⟨hop, List.mem_append_right _ hop3⟩))
  · exact .inr (.inr (.inl ⟨hop, List.mem_append_left _ hop3⟩))
  · exact .inr (.inr (.inr hodd))

/-- The fields of a word that is decoded but not executed (rules R254 to R256, R259). -/
theorem fields_of_isUnimplemented {w : Word} (h : IsUnimplemented w) :
    (fieldOp w, fieldOp3 w) ∈ [(2#2, 0x3A#6), (2#2, 0x39#6), (2#2, 0x3B#6), (3#2, 0x10#6), (3#2, 0x11#6),
      (3#2, 0x12#6), (3#2, 0x13#6), (3#2, 0x14#6), (3#2, 0x15#6), (3#2, 0x16#6), (3#2, 0x17#6), (3#2, 0x19#6),
      (3#2, 0x1A#6)] := by
  rw [← fields_and_maskOp3]
  exact List.mem_map_of_mem (f := fun c => (fieldOp c, fieldOp3 c)) h

section Doubleword
variable {s : State} {rd rs1 : RegNum} {src : Operand2} {f : Fault}

/-- `LDD` faults on an odd `rd`, and else as its two words do (rules R214, R273). -/
theorem execLdd_fault : execLdd rd rs1 src s = .fault f ↔
    (rd.getLsbD 0 = true ∧ f = .illegalInstruction s.pc (encode (.ldd rd rs1 src))) ∨
    (rd.getLsbD 0 = false ∧ s.doubleFault (s.effAddr rs1 src) .read = some f) := by
  simp only [execLdd, State.raiseIllegal]
  cases rd.getLsbD 0 <;> cases s.doubleFault (s.effAddr rs1 src) .read <;> simp [eq_comm]

/-- `STD` faults on an odd `rd`, and else as its two words do (rules R218, R273). -/
theorem execStd_fault : execStd rd rs1 src s = .fault f ↔
    (rd.getLsbD 0 = true ∧ f = .illegalInstruction s.pc (encode (.std rd rs1 src))) ∨
    (rd.getLsbD 0 = false ∧ s.doubleFault (s.effAddr rs1 src) .write = some f) := by
  simp only [execStd, State.raiseIllegal]
  cases rd.getLsbD 0 <;> cases s.doubleFault (s.effAddr rs1 src) .write <;> simp [eq_comm]

end Doubleword

/-- An illegal word faults whatever the state (rule R258); every other instruction has other fields. -/
theorem exec_of_isIllegal {i : Instr} (hi : IsIllegal (encode i)) (s : State) : exec i s = s.raiseIllegal i := by
  have hfields := fields_of_isIllegal hi
  cases i with
  | unimp | reservedOp2_1 | reservedOp2_3 | reservedOp2_5 => rfl
  | reservedArith09 | reservedArith0D | reservedArith19 | reservedArith1D | reservedArith2C | reservedArith2D
  | reservedArith2E | reservedArith2F | reservedArith3E | reservedArith3F | taddcc | tsubcc | taddcctv | tsubcctv
  | mulscc => rfl
  | reservedMem08 | reservedMem0B | reservedMem0C | reservedMem0E | reservedMem18 | reservedMem1B | reservedMem1C
  | reservedMem1E | reservedMem22 | reservedMem28 | reservedMem29 | reservedMem2A | reservedMem2B | reservedMem2C
  | reservedMem2D | reservedMem2E | reservedMem2F | reservedMem32 | reservedMem38 | reservedMem39 | reservedMem3A
  | reservedMem3B | reservedMem3C | reservedMem3D | reservedMem3E | reservedMem3F | ldstub | swap | ldstuba
  | swapa => rfl
  | ldd => exact execLdd_fault.2 (.inl ⟨by simpa [encode, illegalMemOp3] using hfields, rfl⟩)
  | std => exact execStd_fault.2 (.inl ⟨by simpa [encode, illegalMemOp3] using hfields, rfl⟩)
  | halt0 | nop => exact absurd hfields (by decide)
  | call => simp at hfields
  | _ => simp [encode, illegalArithOp3, illegalMemOp3] at hfields

/-- A word that is decoded but not executed faults whatever the state (rule R257); every other instruction has other
fields. -/
theorem exec_of_isUnimplemented {i : Instr} (hi : IsUnimplemented (encode i)) (s : State) :
    exec i s = s.raiseUnimplemented i := by
  have hfields := fields_of_isUnimplemented hi
  cases i with
  | ticc | rett | flush | lda | lduba | lduha | ldda | sta | stba | stha | stda | ldsba | ldsha => rfl
  | halt0 | nop => exact absurd hfields (by decide)
  | call => simp at hfields
  | _ => simp [encode] at hfields

/-! ## Why an instruction faults (rules R270, R273) -/

/-- The fault that `exec i s` answers, one case for each model fault that an instruction can raise. -/
inductive StopCause (i : Instr) (s : State) : Fault → Prop where
  /-- The word is illegal (rule R258). -/
  | illegal (h : IsIllegal (encode i)) : StopCause i s (.illegalInstruction s.pc (encode i))
  /-- The word is not executed (rule R257). -/
  | unimplemented (h : IsUnimplemented (encode i)) : StopCause i s (.unimplementedInstruction s.pc (encode i))
  /-- A transaction is misaligned (rule R45). -/
  | misaligned (addr : Word) (n : Nat) : StopCause i s (.memBadAlignment s.pc addr n)
  /-- A transaction leaves memory (rule R44). -/
  | outOfBounds (addr : Word) (n : Nat) (kind : AccessKind) : StopCause i s (.memOutOfBounds s.pc addr n kind)
  /-- The divisor is 0 (rule R150). -/
  | zeroDivisor : StopCause i s (.divisionByZero s.pc)

section StopTemplates
variable {i : Instr} {s t : State} {rd rs1 : RegNum} {src : Operand2} {f : Fault}

theorem State.branch_ne_fault {cond : BitVec 4} {a : BitVec 1} {disp22 : BitVec 22} :
    s.branch cond a disp22 ≠ .fault f := by
  unfold State.branch
  split_ifs <;> nofun

theorem State.readSpecial_ne_fault {v : Word} : s.readSpecial rd v ≠ .fault f := by
  unfold State.readSpecial
  split_ifs <;> nofun

theorem State.whenSupervisor_ne_fault : s.whenSupervisor t ≠ .fault f := by
  unfold State.whenSupervisor
  split_ifs <;> nofun

theorem State.divide_stop {g : Word → Word → BitVec 64} (h : s.divide rd rs1 src g = .fault f) : StopCause i s f := by
  simp only [State.divide, State.raiseDivisionByZero] at h
  split_ifs at h
  cases h
  exact .zeroDivisor

theorem State.divideCc_stop {g : Word → Word → BitVec 64} (h : s.divideCc rd rs1 src g = .fault f) :
    StopCause i s f := by
  simp only [State.divideCc, State.raiseDivisionByZero] at h
  split_ifs at h
  cases h
  exact .zeroDivisor

theorem State.accessFault_stop {addr : Word} {n : Nat} {kind : AccessKind} (h : s.accessFault addr n kind = some f) :
    StopCause i s f := by
  rw [State.accessFault_cases] at h
  split_ifs at h <;> cases h
  · exact .misaligned ..
  · exact .outOfBounds ..

theorem State.load_stop {n : Nat} {ext : Word → Word} (h : s.load rd rs1 src n ext = .fault f) : StopCause i s f := by
  unfold State.load at h
  split at h <;> cases h
  exact State.accessFault_stop (State.memRead_eq_error.1 ‹_›)

theorem State.store_stop {n : Nat} (h : s.store rd rs1 src n = .fault f) : StopCause i s f := by
  unfold State.store at h
  split at h <;> cases h
  exact State.accessFault_stop (State.memWrite_eq_error.1 ‹_›)

theorem State.doubleFault_stop {ea : Word} {kind : AccessKind} (h : s.doubleFault ea kind = some f) :
    StopCause i s f := by
  unfold State.doubleFault at h
  split at h
  · cases h; exact .misaligned ..
  · split at h
    · cases h; exact State.accessFault_stop ‹_›
    · exact State.accessFault_stop h

end StopTemplates

/-! ## The words of the instructions that fault, by their format -/

section Listed
variable {op2 : BitVec 3} {op3 : BitVec 6} {rd rs1 : RegNum} {src : Operand2} {low22 : BitVec 22}

theorem isIllegal_of_arith {w : Word} (hop : fieldOp w = 2#2) (hop3 : fieldOp3 w ∈ illegalArithOp3) : IsIllegal w :=
  (List.mem_append.1 hop3).elim (fun h => .inr (.inr (.inr (.inl ⟨hop, h⟩)))) fun h => .inr (.inr (.inl ⟨hop, h⟩))

theorem isIllegal_of_mem {w : Word} (hop : fieldOp w = 3#2) (hop3 : fieldOp3 w ∈ illegalMemOp3) : IsIllegal w :=
  (List.mem_append.1 hop3).elim (fun h => .inr (.inr (.inr (.inr (.inr (.inl ⟨hop, h⟩))))))
    fun h => .inr (.inr (.inr (.inr (.inl ⟨hop, h⟩))))

theorem isIllegal_of_odd (h3 : op3 ∈ [0x03#6, 0x07#6]) (hodd : rd.getLsbD 0 = true) :
    IsIllegal (encodeFormat3 3#2 op3 rd rs1 src) :=
  .inr (.inr (.inr (.inr (.inr (.inr ⟨fieldOp_encodeFormat3 .., by rwa [fieldOp3_encodeFormat3],
    by rwa [fieldRd_encodeFormat3]⟩)))))

theorem isIllegal_unimp {const22 : BitVec 22} (h : (Instr.unimp rd const22).wellFormed = true) :
    IsIllegal (encode (.unimp rd const22)) :=
  .inl ⟨encodeFormat2_and_maskOp2 .., encode_unimp_ne_zero h⟩

theorem isIllegal_reservedOp2 (h : encodeFormat2 op2 0#5 0#22 ∈ [0x00400000#32, 0x00C00000#32, 0x01400000#32]) :
    IsIllegal (encodeFormat2 op2 rd low22) :=
  .inr (.inl (by rwa [encodeFormat2_and_maskOp2]))

theorem isUnimplemented_format3 {op : BitVec 2} (h : IsUnimplemented (encodeFormat3 op op3 0#5 0#5 (.reg 0#8 0#5))) :
    IsUnimplemented (encodeFormat3 op op3 rd rs1 src) := by
  rw [IsUnimplemented, encodeFormat3_and_maskOp3] at h ⊢
  exact h

end Listed

/-- Every fault has one of the causes; the last group holds the instructions that complete whatever the state. -/
theorem exec_stop {i : Instr} {s : State} {f : Fault} (hwf : i.wellFormed = true) (h : exec i s = .fault f) :
    StopCause i s f := by
  cases i with simp only [exec] at h
  | unimp =>
    cases h
    exact .illegal (isIllegal_unimp hwf)
  | reservedOp2_1 | reservedOp2_3 | reservedOp2_5 =>
    cases h
    exact .illegal (isIllegal_reservedOp2 (by decide))
  | reservedArith09 | reservedArith0D | reservedArith19 | reservedArith1D | reservedArith2C | reservedArith2D
  | reservedArith2E | reservedArith2F | reservedArith3E | reservedArith3F | taddcc | tsubcc | taddcctv | tsubcctv
  | mulscc =>
    cases h
    exact .illegal (isIllegal_of_arith (by simp [encode]) (by simp [encode, illegalArithOp3]))
  | reservedMem08 | reservedMem0B | reservedMem0C | reservedMem0E | reservedMem18 | reservedMem1B | reservedMem1C
  | reservedMem1E | reservedMem22 | reservedMem28 | reservedMem29 | reservedMem2A | reservedMem2B | reservedMem2C
  | reservedMem2D | reservedMem2E | reservedMem2F | reservedMem32 | reservedMem38 | reservedMem39 | reservedMem3A
  | reservedMem3B | reservedMem3C | reservedMem3D | reservedMem3E | reservedMem3F | ldstub | swap | ldstuba
  | swapa =>
    cases h
    exact .illegal (isIllegal_of_mem (by simp [encode]) (by simp [encode, illegalMemOp3]))
  | ldd =>
    obtain ⟨hodd, rfl⟩ | ⟨-, hfault⟩ := execLdd_fault.1 h
    · exact .illegal (isIllegal_of_odd (by decide) hodd)
    · exact State.doubleFault_stop hfault
  | std =>
    obtain ⟨hodd, rfl⟩ | ⟨-, hfault⟩ := execStd_fault.1 h
    · exact .illegal (isIllegal_of_odd (by decide) hodd)
    · exact State.doubleFault_stop hfault
  | ticc | rett | flush | lda | lduba | lduha | ldda | sta | stba | stha | stda | ldsba | ldsha =>
    cases h
    exact .unimplemented (isUnimplemented_format3 (by unfold IsUnimplemented; decide))
  | bn | be | ble | bl | bleu | bcs | bneg | bvs | ba | bne | bg | bge | bgu | bcc | bpos | bvc =>
    exact absurd h State.branch_ne_fault
  | udiv | sdiv => exact State.divide_stop h
  | udivcc | sdivcc => exact State.divideCc_stop h
  | rdy | rdpsr | rdwim | rdtbr => exact absurd h State.readSpecial_ne_fault
  | wry | wrpsr | wrwim | wrtbr => exact absurd h State.whenSupervisor_ne_fault
  | ld | ldub | lduh | ldsb | ldsh => exact State.load_stop h
  | st | stb | sth => exact State.store_stop h
  | _ => nomatch h

/-- Where a word is fetched, a fault of the step is the fault of its instruction. -/
theorem stopCause_of_step {s : State} {w : Word} {f : Fault} (hf : s.fetches w) (h : step s = .fault f) :
    StopCause (decodeWord w) s.beginStep f := by
  obtain ⟨hout, -⟩ | ⟨-, hexec⟩ := step_fault.1 h
  · exact absurd hf.1 (Nat.not_le.2 hout)
  · rw [State.readBE_of_fetches hf] at hexec
    exact exec_stop (wellFormed_decodeWord w) hexec

/-! ## The step of a no-op word (rules R164, R250) -/

/-- The next-nPC phase writes `nPC` and the two latches that count down a transfer, and nothing else. -/
theorem State.endStep_frame (s : State) :
    s.endStep = { s with
      npc := s.endStep.npc
      branchPending := s.endStep.branchPending
      executeDelaySlot := s.endStep.executeDelaySlot } := by
  unfold State.endStep State.nextNpcPhase
  split_ifs <;> rfl

/-- Between steps, the phase after an instruction that moved nothing goes to the pending target or to the next word, and
nothing stays pending. -/
theorem control_endStep_of_beginStep {s : State} (hd : s.executeDelaySlot = false) :
    Claims.control s.beginStep.endStep =
      (s.npc, if s.branchPending = true then s.branchTarget else s.npc + 4#32, false, false) := by
  cases hp : s.branchPending with
  | false => exact control_endStep_of_idle (s := s.beginStep) rfl hp hd
  | true => exact control_endStep_of_pending (s := s.beginStep) rfl hp hd

end Sys2Proof.Machine

namespace Sys2Proof.Proofs

open Sys2Proof Sys2Proof.Machine Sys2Proof.Claims

/-- Settles O39: a listed word faults by its class, and a fault of the step tells the class of the word. -/
theorem faultingWords : Obligations.FaultingWords := by
  intro s w hf
  have hword := encode_decodeWord w
  refine ⟨fun hw => ?_, fun hw => ?_, fun pc w' => ⟨fun h => ?_, fun h => ?_⟩⟩
  · have hexec := exec_of_isIllegal (i := decodeWord w) (by rwa [hword]) s.beginStep
    rw [State.raiseIllegal, hword] at hexec
    exact step_fault_of_fetches hf hexec
  · have hexec := exec_of_isUnimplemented (i := decodeWord w) (by rwa [hword]) s.beginStep
    rw [State.raiseUnimplemented, hword] at hexec
    exact step_fault_of_fetches hf hexec
  · cases stopCause_of_step hf h with
    | illegal hw => rwa [hword] at hw
  · cases stopCause_of_step hf h with
    | unimplemented hw => rwa [hword] at hw

/-- Settles O40: a no-op word changes nothing itself, so the phases around it are the whole step. -/
theorem noOpWords : Obligations.NoOpWords := by
  intro s w hf hw
  have hexec := exec_of_isNoOp (i := decodeWord w) (by rwa [encode_decodeWord]) s.beginStep
  refine ⟨s.beginStep.endStep, step_of_fetches hf hexec, s.beginStep.endStep_frame, fun a => ?_, fun hd => ?_⟩
  · rw [State.endStep_mem, State.beginStep_mem]
  · exact (control_eq_iff.1 (control_endStep_of_beginStep hd)).2

/-- Settles O33: each of the thirteen meanings raises the fault and reads no operand. -/
theorem unexecutedInstructionsFault : Obligations.UnexecutedInstructionsFault := by
  intro rd rs1 src bit29 cond s
  simp only [List.forall_mem_cons, List.not_mem_nil, false_imp_iff, implies_true, and_true]
  and_intros <;> rfl

/-- Settles O34: each of the forty-nine meanings raises the fault and reads no operand. -/
theorem illegalInstructionsFault : Obligations.IllegalInstructionsFault := by
  intro rd rs1 src low22 low19 s
  simp only [List.forall_mem_append, List.forall_mem_cons, List.not_mem_nil, false_imp_iff, implies_true, and_true]
  and_intros <;> rfl

end Sys2Proof.Proofs
end

section
/-! # The control-transfer family, one instruction at a time: the branches, `CALL`, `JMPL`, and the next-nPC phase

The sixteen branches share `State.branch`; each is then its predicate. A link is a register write before the latches. -/

namespace Sys2Proof.Machine

/-! ## The predicates (rule R171) -/

/-- With bit 3 of `cond` clear, the predicate is its base. -/
theorem branchPred_zero_append (f : Icc) (c : BitVec 3) : branchPred f (0#1 ++ c) = branchBase f c := by
  have hbits : ∀ c : BitVec 3, (0#1 ++ c).extractLsb' 0 3 = c ∧ (0#1 ++ c).getLsbD 3 = false := by decide
  obtain ⟨hbase, hbit⟩ := hbits c
  rw [branchPred, hbase, hbit, Bool.xor_false]

/-- With bit 3 of `cond` set, the predicate is the negated base. -/
theorem branchPred_one_append (f : Icc) (c : BitVec 3) : branchPred f (1#1 ++ c) = !branchBase f c := by
  have hbits : ∀ c : BitVec 3, (1#1 ++ c).extractLsb' 0 3 = c ∧ (1#1 ++ c).getLsbD 3 = true := by decide
  obtain ⟨hbase, hbit⟩ := hbits c
  rw [branchPred, hbase, hbit, Bool.xor_true]

/-! ## The common rule of the branches (rule R170) -/

section Templates
variable {i : Instr} {s : State} {a : BitVec 1} {disp22 : BitVec 22} {cond : BitVec 4} {taken : Bool}

theorem branches_of_branch (hi : exec i s = s.branch cond a disp22) (hp : branchPred s.icc cond = taken) :
    Branches i s a disp22 taken := by
  subst hp
  rw [Branches, hi, ← add_signExtend_shiftLeft_two]
  unfold State.branch
  split_ifs <;> rfl

/-- The word of a branch decodes to it, and it branches. -/
theorem decodes_and_branches (hwf : i.wellFormed = true) (hword : encode i = encodeBranch 2#3 a cond disp22)
    (hi : exec i s = s.branch cond a disp22) (hp : branchPred s.icc cond = taken) :
    decodeWord (encodeBranch 2#3 a cond disp22) = i ∧ Branches i s a disp22 taken :=
  ⟨(decodeWord_eq_iff hwf _).2 hword.symm, branches_of_branch hi hp⟩

end Templates

end Sys2Proof.Machine

namespace Sys2Proof.Proofs

open Sys2Proof Sys2Proof.Machine Sys2Proof.Claims

/-- Settles O22: the sixteen arms are one rule, so each branch is its word and its predicate. -/
theorem branchesOnCondition : Obligations.BranchesOnCondition := by
  intro a disp22 s n z v c
  have hbase := branchPred_zero_append s.icc
  exact ⟨decodes_and_branches rfl rfl rfl (hbase 0#3), decodes_and_branches rfl rfl rfl (hbase 1#3),
    decodes_and_branches rfl rfl rfl (hbase 2#3), decodes_and_branches rfl rfl rfl (hbase 3#3),
    decodes_and_branches rfl rfl rfl (hbase 4#3), decodes_and_branches rfl rfl rfl (hbase 5#3),
    decodes_and_branches rfl rfl rfl (hbase 6#3), decodes_and_branches rfl rfl rfl (hbase 7#3)⟩

/-- Settles O23: as `branchesOnCondition`, with the inverted predicates. -/
theorem branchesOnInverse : Obligations.BranchesOnInverse := by
  intro a disp22 s n z v c
  have hinv := branchPred_one_append s.icc
  exact ⟨decodes_and_branches rfl rfl rfl (hinv 0#3), decodes_and_branches rfl rfl rfl (hinv 1#3),
    decodes_and_branches rfl rfl rfl (hinv 2#3), decodes_and_branches rfl rfl rfl (hinv 3#3),
    decodes_and_branches rfl rfl rfl (hinv 4#3), decodes_and_branches rfl rfl rfl (hinv 5#3),
    decodes_and_branches rfl rfl rfl (hinv 6#3), decodes_and_branches rfl rfl rfl (hinv 7#3)⟩

/-- Settles O24: the link to `%o7`, then the latches with the scaled displacement. -/
theorem callLinksAndBranches : Obligations.CallLinksAndBranches := by
  intro disp30 s
  rw [← add_signExtend_shiftLeft_two]
  exact ⟨decodeWord_encode (i := .call disp30) rfl, _, rfl, .of_write rfl, fun _ => rfl, rfl⟩

/-- Settles O25: the target is read in the state before the link is written. -/
theorem jumpLinksWithoutDelay : Obligations.JumpLinksWithoutDelay :=
  ⟨format3_of_encode fun _ _ _ => ⟨rfl, rfl⟩, fun _ _ _ _ => ⟨_, rfl, .of_write rfl, fun _ => rfl, rfl⟩⟩

/-- Settles O36: the three latch combinations of rule R164. -/
theorem nextNpcPhaseCases : Obligations.NextNpcPhaseCases := fun _ =>
  ⟨State.nextNpcPhase_of_delaySlot, State.nextNpcPhase_of_pending, State.nextNpcPhase_of_idle⟩

end Sys2Proof.Proofs
end

section
/-! # Reset, the divisions that write the condition codes, and the special-register reads -/

namespace Sys2Proof.Machine

/-! ## The template of the divisions with open condition codes (rules R147, R149) -/

/-- `i` completes from `s`, and all it does is write `v` to `rd`, `y` to `Y`, some condition codes, and the model's own
count of free values. -/
def WritesRegYOpenFlags (i : Instr) (s : State) (rd : RegNum) (v y : Word) : Prop :=
  ∃ t, exec i s = .next t ∧ RegWritten s t s rd v ∧ (∃ f, FlagsWritten s t f) ∧
    t = { s with regs := t.regs, psr := t.psr, y := y, freeCount := t.freeCount } ∧ s.SameMemory t

section Templates
variable {i : Instr} {s : State} {rd : RegNum} {lo hi : Word} (rs1 : RegNum) (src : Operand2)
  (f : Word → Word → BitVec 64)

theorem writesRegYOpenFlags_of_divideCc (hexec : exec i s = s.divideCc rd rs1 src f) (hb : s.operand2 src ≠ 0#32)
    (hlo : pairLow (f (s.readReg rs1) (s.operand2 src)) = lo)
    (hhi : pairHigh (f (s.readReg rs1) (s.operand2 src)) = hi) : WritesRegYOpenFlags i s rd lo hi := by
  subst hlo hhi
  have hnext := State.divideCc_next (s := s) (rd := rd) (rs1 := rs1) (f := f).2 ⟨hb, rfl⟩
  exact ⟨_, hexec.trans hnext, .of_write rfl, State.flagsWritten_of_divideCc hnext, rfl, fun _ => rfl⟩

theorem State.divideCc_zero (hb : s.operand2 src = 0#32) :
    s.divideCc rd rs1 src f = .fault (.divisionByZero s.pc) := if_pos hb

end Templates

end Sys2Proof.Machine

namespace Sys2Proof.Proofs

open Sys2Proof Sys2Proof.Machine Sys2Proof.Claims

/-- Settles O4: `init` is an update of the named fields, and `State.reset` a record of values. -/
theorem resetValues : Obligations.ResetValues :=
  ⟨fun _ => ⟨rfl, rfl, rfl, rfl, rfl, -- `PC`, `nPC`, `PSR`, `WIM`, `TBR`
      rfl, rfl, rfl, rfl, rfl, -- the latches and the indicators
      rfl, rfl, rfl, rfl, fun _ => rfl, rfl⟩, -- what `init` does not write
    rfl, rfl, rfl, rfl, rfl, rfl, rfl, rfl⟩

/-- Settles O18: the fault of a zero divisor, else the two words of the pair with flags left open. -/
theorem divideFlagsOpen : Obligations.DivideFlagsOpen := by
  refine ⟨?_, ?_, fun rd rs1 src s => ?_⟩
  iterate 2 exact format3_of_encode fun _ _ _ => ⟨rfl, rfl⟩
  by_cases hb : s.operand2 src = 0#32
  · simp only [if_pos hb]
    exact ⟨State.divideCc_zero rs1 src udivPair hb, State.divideCc_zero rs1 src sdivPair hb⟩
  · simp only [if_neg hb]
    refine ⟨?_, ?_⟩
    · exact writesRegYOpenFlags_of_divideCc rs1 src udivPair rfl hb (pairLow_append _ _) (pairHigh_append _ _)
    · rw [signedPair_eq_sdivPair]
      exact writesRegYOpenFlags_of_divideCc rs1 src sdivPair rfl hb rfl rfl

/-- Settles O20: the op3 numbers, then the gate on `RD_PRIV_CHECK` and `PSR.S`. -/
theorem specialReads : Obligations.SpecialReads := by
  refine ⟨?_, ?_, ?_, ?_, fun rd rs1 src s => ?_⟩
  iterate 4 exact format3_of_encode fun _ _ _ => ⟨rfl, rfl⟩
  split_ifs with hopen
  · exact ⟨writesReg_of_readSpecial rfl hopen, writesReg_of_readSpecial rfl hopen,
      writesReg_of_readSpecial rfl hopen, writesReg_of_readSpecial rfl hopen⟩
  · exact ⟨noEffect_of_readSpecial rfl hopen, noEffect_of_readSpecial rfl hopen,
      noEffect_of_readSpecial rfl hopen, noEffect_of_readSpecial rfl hopen⟩

end Sys2Proof.Proofs
end

section
/-! # The load and store family: the doubleword pair

An access to a pair is one chain of checks, then its two words, which never overlap. -/

namespace Sys2Proof.Machine

/-! ## The checks of a doubleword, as one chain (rules R210, R273) -/

/-- A transaction of 4 bytes at a multiple of 4 can only leave memory. -/
theorem State.accessFault_four_of_aligned {s : State} {addr : Word} {kind : AccessKind}
    (h : s.cfg.strictAlign = true → addr.toNat % 4 = 0) :
    s.accessFault addr 4 kind =
      if s.cfg.memSize < addr.toNat + 4 then some (.memOutOfBounds s.pc addr 4 kind) else none := by
  rw [State.accessFault_cases, if_neg]
  exact fun ⟨hstrict, _, hne⟩ => hne (h hstrict)

theorem State.misaligned_eight_iff {s : State} {ea : Word} :
    s.misaligned ea 8 = true ↔ s.cfg.strictAlign = true ∧ ea.toNat % 8 ≠ 0 := by
  simp [State.misaligned]

/-- Past the alignment check to 8, both words are aligned, and only their bounds are left to check. -/
theorem State.doubleFault_cases (s : State) (ea : Word) (kind : AccessKind) :
    s.doubleFault ea kind =
      if s.cfg.strictAlign = true ∧ ea.toNat % 8 ≠ 0 then some (.memBadAlignment s.pc ea 8)
      else if s.cfg.memSize < ea.toNat + 4 then some (.memOutOfBounds s.pc ea 4 kind)
      else if s.cfg.memSize < (ea + 4#32).toNat + 4 then some (.memOutOfBounds s.pc (ea + 4#32) 4 kind)
      else none := by
  by_cases halign : s.cfg.strictAlign = true ∧ ea.toNat % 8 ≠ 0
  · rw [State.doubleFault, if_pos (State.misaligned_eight_iff.2 halign), if_pos halign]
  · have hhi : s.cfg.strictAlign = true → ea.toNat % 4 = 0 := fun hstrict => by
      have := not_not.1 fun hne => halign ⟨hstrict, hne⟩
      omega
    have hlo : s.cfg.strictAlign = true → (ea + 4#32).toNat % 4 = 0 := fun hstrict => aligned_add_four (hhi hstrict)
    rw [State.doubleFault, if_neg (mt State.misaligned_eight_iff.1 halign), if_neg halign,
      State.accessFault_four_of_aligned hhi, State.accessFault_four_of_aligned hlo]
    split_ifs <;> rfl

/-- An access that faults on an odd `rd` and as its two words do meets the chain of faults of the statements. -/
theorem accessesPair_of_faults {i : Instr} {s : State} {rd : RegNum} {ea : Word} {kind : AccessKind} {effect : Prop}
    (hodd : rd.getLsbD 0 = true → exec i s = .fault (.illegalInstruction s.pc (encode i)))
    (hfault : ∀ f, rd.getLsbD 0 = false → s.doubleFault ea kind = some f → exec i s = .fault f)
    (hok : rd.getLsbD 0 = false → s.doubleFault ea kind = none → effect) : AccessesPair i s rd ea kind effect := by
  have hcases := s.doubleFault_cases ea kind
  rw [AccessesPair]
  by_cases hrd : rd.getLsbD 0 = true
  · rw [if_pos hrd]
    exact hodd hrd
  · rw [if_neg hrd]
    have heven := Bool.eq_false_of_not_eq_true hrd
    split_ifs at hcases ⊢
    · exact hfault _ heven hcases
    · exact hfault _ heven hcases
    · exact hfault _ heven hcases
    · exact hok heven hcases

/-! ## The cells and the bytes of a pair (rules R214, R218) -/

/-- Every cell after the two register writes of a pair. -/
theorem State.get_writeReg_pair (s : State) (n m : RegNum) (v v' : Word) (q : PhysReg) :
    ((s.writeReg n v).writeReg m v').regs.get q =
      if s.cellOf m = some q then v' else if s.cellOf n = some q then v else s.regs.get q := by
  rw [State.writeReg_regs, RegFile.get_write, State.cellOf_writeReg, State.writeReg_regs, RegFile.get_write]

/-- Every byte of the first word after a doubleword store, which the second word does not reach. -/
theorem State.readByte_storeBytes_pair_fst (s : State) (ea v v' : Word) {k : Nat} (hk : k < 4) :
    ((s.storeBytes ea 4 v).storeBytes (ea + 4#32) 4 v').mem.readByte (ea.toNat + k) =
      v.extractLsb' (8 * (3 - k)) 8 := by
  have hdisj := disjoint_add_four ea
  rw [State.storeBytes_mem, Memory.readByte_writeBE_outside _ _ _ _ _ (by omega), State.storeBytes_mem,
    Memory.readByte_writeBE_inside _ _ _ _ _ hk]

/-- What lies outside both words is as before. -/
theorem State.readByte_storeBytes_pair_outside (s : State) (ea eb v v' : Word) {a : Nat}
    (ha : a < ea.toNat ∨ ea.toNat + 4 ≤ a) (hb : a < eb.toNat ∨ eb.toNat + 4 ≤ a) :
    ((s.storeBytes ea 4 v).storeBytes eb 4 v').mem.readByte a = s.mem.readByte a := by
  rw [State.storeBytes_mem, Memory.readByte_writeBE_outside _ _ _ _ _ hb, State.storeBytes_mem,
    Memory.readByte_writeBE_outside _ _ _ _ _ ha]

end Sys2Proof.Machine

namespace Sys2Proof.Proofs

open Sys2Proof Sys2Proof.Machine Sys2Proof.Claims

/-- Settles O28: the chain of faults, then the two words read before either register is written. -/
theorem loadDoubleEffect : Obligations.LoadDoubleEffect := by
  refine ⟨format3_of_encode fun _ _ _ => ⟨rfl, rfl⟩, fun rd rs1 src s => ?_⟩
  refine accessesPair_of_faults (fun hodd => execLdd_fault.2 (.inl ⟨hodd, rfl⟩))
    (fun f heven hf => execLdd_fault.2 (.inr ⟨heven, hf⟩)) fun heven hok => ?_
  have hexec := execLdd_next.2 ⟨heven, hok, rfl⟩
  rw [State.readBE_eq_wordAt, State.readBE_eq_wordAt] at hexec
  obtain ⟨hfst, hsnd⟩ := s.readReg_writeReg_pair heven (s.wordAt (s.effAddr rs1 src).toNat)
    (s.wordAt (s.effAddr rs1 src + 4#32).toNat)
  exact ⟨_, hexec, rfl, fun _ => rfl, hfst, hsnd, s.get_writeReg_pair _ _ _ _⟩

/-- Settles O30: the chain of faults, then the two words, which do not overlap. -/
theorem storeDoubleEffect : Obligations.StoreDoubleEffect := by
  refine ⟨format3_of_encode fun _ _ _ => ⟨rfl, rfl⟩, fun rd rs1 src s => ?_⟩
  refine accessesPair_of_faults (fun hodd => execStd_fault.2 (.inl ⟨hodd, rfl⟩))
    (fun f heven hf => execStd_fault.2 (.inr ⟨heven, hf⟩)) fun heven hok => ?_
  exact ⟨_, execStd_next.2 ⟨heven, hok, rfl⟩, rfl, fun k hk => s.readByte_storeBytes_pair_fst _ _ _ hk,
    fun k hk => Memory.readByte_writeBE_inside _ _ _ _ _ hk,
    fun a ha hb => s.readByte_storeBytes_pair_outside _ _ _ _ ha hb⟩

end Sys2Proof.Proofs
end

section
/-! # The window family: one rotation, in either direction

`State.rotateAdd` is the template of `SAVE` and `RESTORE`; the two differ in the window they enter, in where the ring
wraps, and in the indicator they raise. -/

namespace Sys2Proof.Machine

/-! ## One rotation (rules R241 to R243) -/

theorem getLsbD_setBit (v : Word) {k : Nat} (hk : k < 32) (j : Nat) :
    (setBit v k).getLsbD j = true ↔ v.getLsbD j = true ∨ j = k := by
  have hset : setBit v k = v ||| BitVec.twoPow 32 k := rfl
  rw [hset, BitVec.getLsbD_or, BitVec.getLsbD_twoPow, decide_eq_true hk, Bool.true_and, Bool.or_eq_true,
    decide_eq_true_iff, eq_comm (a := k)]

/-- `i` completes from `s`, and all it does is enter the window `new`, set its `WIM` bit where the ring wrapped, let that
bit raise the indicators that `i` may raise, and write `v` to `rd` of the new window. -/
def TurnsWindow (i : Instr) (s : State) (rd : RegNum) (v : Word) (new : Nat) (wrapped : Prop)
    (raisesOvf raisesUnf : Bool) : Prop :=
  ∃ t, exec i s = .next t ∧ RegWritten s t t rd v ∧ s.SameMemory t ∧
    (t.psr.extractLsb' 0 5).toNat = new ∧ (∀ k, 5 ≤ k → t.psr.getLsbD k = s.psr.getLsbD k) ∧
    (∀ k, t.wim.getLsbD k = true ↔ s.wim.getLsbD k = true ∨ (wrapped ∧ k = new)) ∧
    t.wovf = (s.wovf || (raisesOvf && t.wim.getLsbD new)) ∧ t.wunf = (s.wunf || (raisesUnf && t.wim.getLsbD new)) ∧
    t = { s with regs := t.regs, psr := t.psr, wim := t.wim, wovf := t.wovf, wunf := t.wunf }

section Rotate
variable {i : Instr} {s : State} {rd rs1 : RegNum} {src : Operand2} {d : Rotation} {new : Nat} {wrapped : Prop}

/-- A wrap sets the bit of the new window, and no rotation changes another bit of `WIM`. -/
theorem State.getLsbD_wim_rotate (hlt : d.target s.cfg.windows s.cwp < 32) (k : Nat) :
    (s.rotate d).wim.getLsbD k = true ↔
      s.wim.getLsbD k = true ∨ (d.wraps s.cfg.windows s.cwp = true ∧ k = d.target s.cfg.windows s.cwp) := by
  have hwim : (s.rotate d).wim =
      if d.wraps s.cfg.windows s.cwp then setBit s.wim (d.target s.cfg.windows s.cwp) else s.wim := rfl
  rw [hwim]
  cases d.wraps s.cfg.windows s.cwp with
  | false => simp
  | true => simp [getLsbD_setBit _ hlt]

theorem turnsWindow_of_rotateAdd (hl : s.cfg.legal = true) (hi : exec i s = s.rotateAdd rd rs1 src d)
    (hnew : d.target s.cfg.windows s.cwp = new) (hwrap : d.wraps s.cfg.windows s.cwp = true ↔ wrapped) :
    TurnsWindow i s rd (s.readReg rs1 + s.operand2 src) new wrapped (d == .save) (d == .restore) := by
  have hlt : d.target s.cfg.windows s.cwp < 32 :=
    (Rotation.target_lt_windows hl d s.cwp).trans_le ((Config.legal_iff _).1 hl).2.1
  subst hnew
  refine ⟨_, hi.trans (State.rotateAdd_next.2 rfl), .of_write rfl, fun _ => rfl, ?_, fun k hk => ?_, fun k => ?_, rfl, rfl,
    rfl⟩
  · rw [State.writeReg_psr, ← toNat_psrCwp_get, State.rotate_psr, toNat_psrCwp_get_set _ hlt]
  · exact s.getLsbD_psr_rotate d hk
  · rw [← hwrap]
    exact State.getLsbD_wim_rotate hlt k

end Rotate

theorem Rotation.wraps_save_iff {w k : Nat} (h : k < w) : Rotation.wraps .save w k = true ↔ k = w - 1 := by
  rw [Rotation.wraps, beq_iff_eq]
  omega

theorem Rotation.wraps_restore_iff {w k : Nat} : Rotation.wraps .restore w k = true ↔ k = 0 := beq_iff_eq

theorem Rotation.target_restore {w k : Nat} (h : k < w) :
    Rotation.target .restore w k = if k = 0 then w - 1 else k - 1 := by
  rw [Rotation.target]
  split_ifs with h0
  · rw [h0, Nat.zero_add, Nat.mod_eq_of_lt (by omega)]
  · rw [show k + w - 1 = k - 1 + w by omega, Nat.add_mod_right, Nat.mod_eq_of_lt (by omega)]

end Sys2Proof.Machine

namespace Sys2Proof.Proofs

open Sys2Proof Sys2Proof.Machine Sys2Proof.Claims

/-- Settles O31: one rotation in each direction, with the window counted as `PSR.CWP` modulo `W`. -/
theorem saveRestoreEffects : Obligations.SaveRestoreEffects := by
  refine ⟨?_, ?_, fun rd rs1 src s hl => ?_⟩
  iterate 2 exact format3_of_encode fun _ _ _ => ⟨rfl, rfl⟩
  have hlt := State.cwp_lt_windows hl
  rw [← s.cwp_eq]
  exact ⟨turnsWindow_of_rotateAdd (d := .save) hl rfl rfl (Rotation.wraps_save_iff hlt),
    turnsWindow_of_rotateAdd (d := .restore) hl rfl (Rotation.target_restore hlt) Rotation.wraps_restore_iff⟩

end Sys2Proof.Proofs
end
